-- ==== Sys2Proof/Word.lean ====
section
/-! DEFINITION. The words of the machine: the unsigned integer types of 00_scope.md 0.4 (R1) that the part
holds as bits, because they wrap or because they are stored byte by byte. Numbers that neither wrap nor are cut
to a width are `Nat` or `Int` ("exact integer arithmetic on unbounded integers", R1). -/

namespace Sys2Proof

/-- A u8 of memory. -/
abbrev Byte := BitVec 8

/-- A u16 that wraps at its width. -/
abbrev Word16 := BitVec 16

/-- A u32 or s32 that wraps at its width. -/
abbrev Word32 := BitVec 32

/-- Part time: a 32-bit count of milliseconds that wraps from 0xFFFFFFFF to 0 (00_scope.md 0.4). -/
abbrev Time := BitVec 32

end Sys2Proof
end

