-- ==== Sys2Proof/Syntax.lean ====
section
/-! DEFINITION. The commands of the part: one constructor of `Instr` for each row of spec/opcode_table.json, with
the operands its event carries. Requests carry none: their arguments are in the record at the head of the request
FIFO (R19, R20, R185; log 12). A data-phase command carries no address: it is the transaction's own position (R2). -/

namespace Sys2Proof

/-- The four keys (7.1). -/
inductive Key | fwd | back | power | light
deriving DecidableEq, Repr

/-- The two phase lines of the scroll ring (R115). -/
inductive Phase | a | b
deriving DecidableEq, Repr

/-- The two PWM channels of the front light (R132). -/
inductive LightChannel | cool | warm
deriving DecidableEq, Repr

/-- The three converter channels (R139). -/
inductive Channel | batt | therm | amb
deriving DecidableEq, Repr

/-- The commands: the 68 rows of spec/opcode_table.json, in its order. -/
inductive Instr
  /-- POWER_ON_RESET (R182). -/
  | powerOnReset
  /-- PIN_RESET (R182): `transferred` is how many bytes of a part's write burst in progress had been transferred (R18). -/
  | pinReset (transferred : Nat)
  /-- LINK_RESET (R7). -/
  | linkReset
  /-- READ header (R2): starting address and length, both counted in two-byte words. -/
  | read (wordAddr : BitVec 24) (words : Nat)
  /-- WRITE header (R2): starting address and length, both counted in two-byte words. -/
  | write (wordAddr : BitVec 24) (words : Nat)
  /-- CONFIG_READ of one profile item (R3). -/
  | configRead (index : Nat)
  /-- CONFIG_WRITE of one profile item (R3). -/
  | configWrite (index : Nat) (data : Nat)
  /-- DISCARDED_HEADER: a header with an unknown command (R2). -/
  | discardedHeader
  /-- HOST_WRITE_BYTE: the next byte of a WRITE, in an area without a snooping owner (R9). -/
  | hostWriteByte (b : Byte)
  /-- SLOT_BYTE_WRITE: the next byte of a WRITE, in a slot area (R40). -/
  | slotByteWrite (b : Byte)
  /-- INTAKE_BYTE_WRITE: the next byte of a WRITE, in the intake ring (R158). -/
  | intakeByteWrite (b : Byte)
  /-- REQUEST_RECORD_RECEIVE: the next bytes of a well-formed request portion; the record joins the FIFO with its
  last byte (R19). Fewer bytes than complete it are a record of which only part was forwarded (R7). -/
  | requestRecordReceive (bytes : List Byte)
  /-- CONSUMER_WORD_WRITE: the next word of a WRITE, at a ring's consumer word (R30). -/
  | consumerWordWrite (v : Word16)
  /-- NOTICE_DONE_WRITE: the next word of a WRITE, at the notice-done word (R35). -/
  | noticeDoneWrite (v : Word16)
  /-- HOST_WORDS_OTHER_WRITE: the next word of a WRITE, elsewhere in the host-words page (R30). -/
  | hostWordsOtherWrite (v : Word16)
  /-- NOTICE_WORD_READ: a READ sends the notice word's two bytes upstream (R34). -/
  | noticeWordRead
  /-- MEMORY_BURST_END (R15). -/
  | memoryBurstEnd
  /-- MEMORY_RETENTION_ENTERED (R17). -/
  | memoryRetentionEntered
  /-- MEMORY_EXIT_COMPLETE (R17). -/
  | memoryExitComplete
  /-- REQUEST_BAD_CODE (R21). -/
  | requestBadCode
  /-- SET_NOTICE (R32). -/
  | setNotice
  /-- LOAD_TABLE_LEVELS (R136). -/
  | loadTableLevels
  /-- LOAD_TABLE_KEYMAP (R109). -/
  | loadTableKeymap
  /-- LOAD_TABLE_THERMISTOR (R145). -/
  | loadTableThermistor
  /-- LOAD_TABLE_WATCHES (R149). -/
  | loadTableWatches
  /-- MARK (R43). -/
  | mark
  /-- TURN (R47). -/
  | turn
  /-- JUMP (R56). -/
  | jump
  /-- CANCEL_TURNS (R57). -/
  | cancelTurns
  /-- LOAD_WAVEFORMS (R61). -/
  | loadWaveforms
  /-- UNLOAD_WAVEFORMS (R64). -/
  | unloadWaveforms
  /-- PRESENT (R74). -/
  | present
  /-- CANCEL (R78). -/
  | cancel
  /-- FRAME_BOUNDARY (R85). -/
  | frameBoundary
  /-- SET_PANEL (R95). -/
  | setPanel
  /-- CLEAR_RAIL_FAULT (R104). -/
  | clearRailFault
  /-- RAIL_GOOD_RISE (R98). -/
  | railGoodRise
  /-- RAIL_GOOD_FALL (R102). -/
  | railGoodFall
  /-- RISE_TIMER_EXPIRY (R98). -/
  | riseTimerExpiry
  /-- RAIL_HOLD_TIMER_EXPIRY (R100). -/
  | railHoldTimerExpiry
  /-- FALL_TIMER_EXPIRY (R101). -/
  | fallTimerExpiry
  /-- FAULT_CHECK_EXPIRY (R103). -/
  | faultCheckExpiry
  /-- KEY_RAW_CHANGE: the raw level of a key becomes DOWN or UP (R106). -/
  | keyRawChange (k : Key) (down : Bool)
  /-- KEY_DEBOUNCE_EXPIRY (R106). -/
  | keyDebounceExpiry (k : Key)
  /-- HOLD_TIMER_EXPIRY of a key (R107). -/
  | holdTimerExpiry (k : Key)
  /-- REPEAT_TIMER_EXPIRY of a key (R107). -/
  | repeatTimerExpiry (k : Key)
  /-- RING_PHASE_CHANGE: the raw level of a phase becomes high or low (R116). -/
  | ringPhaseChange (p : Phase) (high : Bool)
  /-- PHASE_FILTER_EXPIRY (R116). -/
  | phaseFilterExpiry (p : Phase)
  /-- SET_INPUT (R123). -/
  | setInput
  /-- WHEEL_SNAPSHOT (R121). -/
  | wheelSnapshot
  /-- LIGHT_TICK (R131). -/
  | lightTick
  /-- PWM_FRAME_START of a channel (R133). -/
  | pwmFrameStart (c : LightChannel)
  /-- SET_LIGHT (R134). -/
  | setLight
  /-- SET_LIGHT_TUNING (R135). -/
  | setLightTuning
  /-- CHANNEL_DUE: part time reaches a channel's next due time (R140). -/
  | channelDue (c : Channel)
  /-- CONVERSION_COMPLETE with the converter's 10-bit code (R143). -/
  | conversionComplete (code : BitVec 10)
  /-- SET_SAMPLER (R146). -/
  | setSampler
  /-- SAMPLE_NOW (R147). -/
  | sampleNow
  /-- OPEN_DOWNLOAD (R155). -/
  | openDownload
  /-- CLOSE_DOWNLOAD (R156). -/
  | closeDownload
  /-- SET_TIMERS (R174). -/
  | setTimers
  /-- SET_POWER_ACTIVE (R181). -/
  | setPowerActive
  /-- SET_POWER_DOZE (R175). -/
  | setPowerDoze
  /-- SET_POWER_DEEP (R181). -/
  | setPowerDeep
  /-- RESTART (R183). -/
  | restart
  /-- NAP_TIMER_EXPIRY (R173). -/
  | napTimerExpiry
  /-- DEEP_TIMER_EXPIRY (R178). -/
  | deepTimerExpiry
  /-- GRACE_TIMER_EXPIRY (R178). -/
  | graceTimerExpiry
deriving DecidableEq, Repr

end Sys2Proof
end

