-- ==== Sys2Proof/Decode.lean ====
section
/-! DEFINITION. The host's decoding question. spec/opcode_table.json gives no row any bits ("n_rows_with_fixed": 0,
98_reader.md): the commands of this block are events, not encoded words. So no word spells a command. The layouts of
request records (R185), which are data in memory, are read in Machine/Operands.lean. -/

namespace Sys2Proof

/-- The command that `nbits` bits `w` spell by the table's bits: none, since no row has bits. -/
def decodeTableWord (_nbits _w : Nat) : Option Instr := none

end Sys2Proof
end

