-- ==== Sys2Proof/Config.lean ====
section
/-! DEFINITION. What is fixed for every 2240: the area map (R9), the control pages (R184), the link profile (R3), the
ring table (R184), fixed lengths, and what a memory byte that nothing has written reads as (log 4). -/

namespace Sys2Proof.Config

/-- 32 MiB (00_scope.md 0.4). -/
def memSize : Nat := 0x2000000
def assemblyBase : Nat := 0x0C00000
def assemblySize : Nat := 0x800000
def slotBase : Nat := 0x1400000
def slotSize : Nat := 0x180000
def mirrorBase : Nat := 0x1A00000
def waveBase : Nat := 0x1D00000
/-- 2 MiB: the waveform area's size, the bound of check BOUNDS (R62, R187). -/
def waveSize : Nat := 0x200000
def intakeBase : Nat := 0x1F00000
def intakeSize : Nat := 0x80000
def controlBase : Nat := 0x1F80000
def pageSize : Nat := 0x1000
/-- Control page `n`, 0..127 (R184). -/
def pageBase (n : Nat) : Nat := controlBase + n * pageSize
def requestPage : Nat := pageBase 1
def hostWordsPage : Nat := pageBase 2
def statusPage : Nat := pageBase 7
def chunkMapPage (entry : Nat) : Nat := pageBase (8 + entry)
def ringPage : Nat := pageBase 12
def noticeWordAddr : Nat := ringPage + 0x40
/-- The notice-done word's offset in the host-words page (R184). -/
def noticeDoneOffset : Nat := 0x10

/-- R3: the link profile's items; any other index reads 0. -/
def linkProfile : Nat → Nat
  | 0 => 32
  | 1 => 2048
  | 2 => 2
  | 3 => 1
  | 4 => 1
  | _ => 0

/-- R19. -/
def fifoPlaces : Nat := 16
/-- R73. -/
def queuePlaces : Nat := 32
/-- R164. -/
def copyRoom : Nat := 4096
/-- R98, in ms. -/
def riseTime : Nat := 40
/-- R101, in ms. -/
def fallTime : Nat := 100
/-- R103, in ms. -/
def faultCheckTime : Nat := 100
/-- R69, in tenths of a degree. -/
def bandMargin : Int := 10
/-- The tile columns of a tile table: 2048 / 32 (00_scope.md 0.4). -/
def tileColumns : Nat := 64
/-- R142, in microseconds. -/
def conversionFast : Nat := 50
/-- R142, in microseconds. -/
def conversionSlow : Nat := 2000
/-- R157: D4, 7B, 19, E2. -/
def sync : List Byte := [0xD4#8, 0x7B#8, 0x19#8, 0xE2#8]
/-- R187. -/
def waveMagic : Nat := 0x5357325A

/-- DESIGN CHOICE, unsafe (log 4): R18 and R182 leave the memory's contents undefined after power-on reset. A byte
that nothing has written reads as 0; memory lists no byte that holds it. -/
def unwritten : Byte := 0#8

end Sys2Proof.Config
end

