-- ==== Sys2Proof/Machine/State.lean ====
section
/-! DEFINITION. The state of the part as plain data, block by block (00_scope.md 0.2), the outcomes' reason types, and
the state after reset. Each type's docstring names the rule of spec/ it follows. -/

namespace Sys2Proof.Machine

/-! ## Why a step stops -/

/-- The spec names no event that stops the part, so no step ends in a fault and this type has no constructor. -/
inductive Fault
deriving DecidableEq, Repr

/-- Why the model gives a command no meaning. -/
inductive Refusal
  /-- Raised only by an arm of `exec` whose command has no meaning yet. Safe: the machine stops. -/
  | notModelled (mnemonic : String)
deriving DecidableEq, Repr

/-! ## Names and rectangles -/

/-- A tile rectangle, edges included (00_scope.md 0.4). -/
structure Rect where
  tx0 : Nat
  ty0 : Nat
  tx1 : Nat
  ty1 : Nat
deriving DecidableEq, Repr

/-- Slot roles (R38). -/
inductive Role | shown | ahead | behind | spare
deriving DecidableEq, Repr

/-- Turn directions (R47). -/
inductive Dir | forward | back
deriving DecidableEq, Repr

/-- Turn origins (R47). -/
inductive TurnOrigin | key | wheel | request
deriving DecidableEq, Repr

/-- The reasons of a refused reply (R23), in the table's order. -/
inductive Reason
  | badCode | badArg | busy | queueFull | notReady | fault | state | tableFull | overlap | notFound | tooLate
  | badTable | emptySlot
deriving DecidableEq, Repr

/-- The detail flags of a DONE or ACCEPTED reply (R23). -/
structure Detail where
  clamped : Bool := false
  nothingToDo : Bool := false
  merged : Bool := false
deriving DecidableEq, Repr

/-- What an owner decides on a request (R22, R23). -/
inductive Reply
  | done (d : Detail) (result : Word32)
  | accepted (d : Detail) (result : Word32)
  | refused (r : Reason)
deriving DecidableEq, Repr

/-- How a turn is decided (R49, R54). -/
inductive TurnOutcome | started | pending | cancelledPending | dropped | refused (r : Reason)
deriving DecidableEq, Repr

/-- Origins of an update record (R72). -/
inductive UpdateOrigin | request | turn | jump
deriving DecidableEq, Repr

/-- How an update record ends (R72). -/
inductive UpdateOutcome | done | aborted | dropped | cancelled | superseded
deriving DecidableEq, Repr

/-- Why a slot was emptied (R186, kind 4). -/
inductive EmptyCause | write | adjacency | jump
deriving DecidableEq, Repr

/-- Rail states (R96). -/
inductive RailState | off | rising | on | hold | falling | fault
deriving DecidableEq, Repr

/-- Rail fault causes (R96). -/
inductive RailCause | none | riseTimeout | dropout | fallSlow
deriving DecidableEq, Repr

/-- Gestures (R107). -/
inductive Gesture | tap | hold | repeat
deriving DecidableEq, Repr

/-- Key actions (R108). -/
inductive KeyAction
  | none | turnFwd | turnBack | lightToggle | lightUp | lightDown | notify | sleepRequest
deriving DecidableEq, Repr

/-- Watch events (R148). -/
inductive WatchEvent | batt | therm | amb | wheel
deriving DecidableEq, Repr

/-- Watch modes (R151). -/
inductive WatchMode | off | once | edge | every
deriving DecidableEq, Repr

/-- Watch actions (R152). -/
inductive WatchAction | none | battNormal | battLow | battCritical | coldOn | coldOff
deriving DecidableEq, Repr

/-- Last state of a watch (R148). -/
inductive WatchLast | unset | true | false
deriving DecidableEq, Repr

/-- Departure phases (R172). -/
inductive DepartPhase | grace | drain
deriving DecidableEq, Repr

/-- Power states, DEPARTING with its phase (R172). -/
inductive PowerState | init | active | doze | nap | departing (p : DepartPhase) | deep
deriving DecidableEq, Repr

/-- Departure reasons (R172). -/
inductive DepartReason | timer | critical | request
deriving DecidableEq, Repr

/-- Battery states (R177). -/
inductive Battery | normal | low | critical
deriving DecidableEq, Repr

/-- Wake causes (R172). -/
inductive WakeCause | none | key | wheel | watch | transaction | powerKey
deriving DecidableEq, Repr

/-- What changed the battery state (R181, BATTERY). -/
inductive BatteryCause | watch (index : Fin 8) | wake
deriving DecidableEq, Repr

/-- Purposes of a release request (R96). -/
inductive Release | nap | deep
deriving DecidableEq, Repr

/-- Waveform set states (R58). -/
inductive SetState | unloaded | loading | loaded | failed
deriving DecidableEq, Repr

/-- Load results (12.2). -/
inductive LoadResult | loaded | failed | unloaded
deriving DecidableEq, Repr

/-- Why a chunk was bad (R166). -/
inductive BadCause | crc | length
deriving DecidableEq, Repr

/-- The flags of an update record (R72). -/
structure UpdateFlags where
  ghostPromoted : Bool := false
  unknownPromoted : Bool := false
  substituted : Bool := false
  coldClamp : Bool := false
  hotClamp : Bool := false
  thermFault : Bool := false
deriving DecidableEq, Repr

/-! ## Memory -/

/-- Memory as (address, byte) cells in one canonical form (`Memory.wf`, Machine/Ops.lean). -/
abbrev Memory := List Host.Cell

/-! ## Report unit (chapter 2) -/

/-- The six rings, in source-id order 1..6 (R184). -/
inductive RingId | power | input | display | intake | watch | reply
deriving DecidableEq, Repr

/-- The kinds of a report entry with their data (R186). -/
inductive EntryBody
  | none
  | reply (code hostFlags : Byte) (r : Reply)
  | key (k : Key) (g : Gesture) (a : KeyAction) (down : Nat) (wake : Bool)
  | turn (d : Dir) (o : TurnOrigin) (out : TurnOutcome) (shown : Fin 4) (own opposite : Nat) (hostTag : Nat)
      (deferred : Bool)
  | slotEmptied (slot : Fin 4) (role : Role) (cause : EmptyCause) (tag : Nat)
  | updateEnd (out : UpdateOutcome) (o : UpdateOrigin) (source : Fin 4) (requested : Nat)
      (effective band : Option Nat) (flags : UpdateFlags) (elapsed : Nat)
  | waveform (result : LoadResult) (cause modes bands failMode failBand setId : Nat)
  | railFault (cause : RailCause) (left : RailState) (count aborted : Nat) (madeUnknown : Bool)
  | streamBreak (cursor offset : Nat) (discarded : Bool) (entry : Option (Fin 4)) (index : Nat)
  | chunkBad (tag : Nat) (entry : Fin 4) (cause : BadCause) (bad : Nat)
  | bookComplete (tag size : Nat)
  | bookAborted (tag good count : Nat)
  | watch (index : Fin 8) (e : WatchEvent) (branch : Bool) (a : WatchAction) (value : Int)
  | departure (r : DepartReason) (p : DepartPhase) (grace : Nat) (b : Battery)
  | departureCancelled (r : DepartReason) (began : Time)
  | battery (before after : Battery) (cause : BatteryCause)
  | wake (deepAt : Time)
  | sleepRequest (g : Gesture) (s : PowerState)
deriving DecidableEq, Repr

/-- One report entry (R26). -/
structure Entry where
  body : EntryBody
  overrun : Bool
  tag : Nat
  time : Time
deriving DecidableEq, Repr

/-- The entry INIT fills every place with (R31, R186). -/
def Entry.none : Entry := ⟨.none, false, 0, 0#32⟩

/-- One report ring (R28): producer count, taken consumer count, entry places, enable (R32), and the numbers of the
entries placed whose place has had no write granted since, oldest first, which give the written count (R16). -/
structure Ring where
  produced : Word16
  consumed : Word16
  places : List Entry
  enabled : Bool
  ungranted : List Word16
deriving DecidableEq, Repr

structure Rings where
  power : Ring
  input : Ring
  display : Ring
  intake : Ring
  watch : Ring
  reply : Ring
deriving DecidableEq, Repr

/-- R28, R33, R34: the rings, the under-service stack with its top first, and the notice value (none is NONE). -/
structure ReportUnit where
  rings : Rings
  stack : List RingId
  value : Option RingId
deriving DecidableEq, Repr

/-! ## Request unit (chapter 2) -/

/-- The tables LOAD-TABLE reads (R25). -/
inductive TableId | levels | keymap | thermistor | watches
deriving DecidableEq, Repr

/-- R19, R20: the FIFO, oldest record first, and the record in hand (none is IDLE). -/
structure RequestUnit where
  fifo : List (List Byte)
  inHand : Option (List Byte)
deriving DecidableEq, Repr

/-! ## Link port and area decoder (chapter 1) -/

/-- The areas of R9, the control area by the kind of its page (R10). -/
inductive Area
  | openArea | assembly | slot (n : Fin 4) | mirror | waveform | intake | request | hostWords | settings
  | partWritten | spare
deriving DecidableEq, Repr

/-- The counts of the guard record (R13). -/
inductive DropKind | assembly | mirror | waveform | control | malformed
deriving DecidableEq, Repr

/-- One upstream READ or WRITE transaction (R2): start and length in bytes, bytes transferred, whether the request
portion was judged well formed (R11), whether its intake bytes were judged (R158), whether it is held on Retention
(R5), the bytes of the request record in arrival (R19), the kinds of area it dropped bytes in, and the first address
dropped (R13). -/
structure Txn where
  isWrite : Bool
  addr : Nat
  len : Nat
  pos : Nat
  portionOk : Bool
  intakeJudged : Bool
  retention : Bool
  partialRecord : List Byte
  dropped : List DropKind
  firstDrop : Option Nat
deriving DecidableEq, Repr

/-- The link port's states with the transaction in progress (R4). -/
inductive LinkPhase
  | idle
  | held (t : Txn)
  | claiming (t : Txn)
  | data (t : Txn)
  | off
deriving DecidableEq, Repr

/-- The link port; `sent` and `configAnswer` are what it last drove on the upstream data lanes (log 22). -/
structure Link where
  phase : LinkPhase
  sent : List Byte
  configAnswer : Nat
deriving DecidableEq, Repr

/-- The guard record (R13). -/
structure Guard where
  assembly : Nat
  mirror : Nat
  waveform : Nat
  control : Nat
  malformed : Nat
  lastDropped : Nat
deriving DecidableEq, Repr

/-! ## Memory port (chapter 1) -/

/-- The records of the record-write queue (R16, R184). -/
inductive RecordId
  | identity | guard | power | slotTable | display | laneTable | light | samples | wheel | intake | downloads
  | chunkMap (entry : Fin 4) (byteIndex : Nat)
  | entryPlace (r : RingId) (place : Nat)
  | ringHeader (r : RingId)
  | noticeWord
deriving DecidableEq, Repr

/-- What waits in the record-write queue: a record write, or a SETTINGS page read (R16). A read that was asked for in
retention or while it was being entered is held until the port returns to SERVING (R25). -/
inductive QueueItem
  | write (r : RecordId)
  | tableRead (t : TableId) (held : Bool)
deriving DecidableEq, Repr

/-- What a granted burst is (R14). -/
inductive BurstKind
  | passThrough | recordWrite | tableRead | copy
  | latchRead (lane : Fin 16) | latchWrite | frameRead (lane : Fin 16) | completion | waveRead
deriving DecidableEq, Repr

/-- A burst in progress, with the bytes it writes in the order it transfers them; they land at its end (log 10). -/
structure Burst where
  kind : BurstKind
  writes : List Host.Cell
deriving DecidableEq, Repr

/-- Retention states (R17). -/
inductive Retention | serving | entering | retained | leaving
deriving DecidableEq, Repr

structure Port where
  retention : Retention
  burst : Option Burst
  starvation : Nat
  queue : List QueueItem
  initLeft : Nat
deriving DecidableEq, Repr

/-! ## Slot unit (chapter 3) -/

/-- A slot record (R38); `dirty` is the set of dirty tile places 64·ty + tx, ascending. -/
structure Slot where
  role : Role
  ready : Bool
  tag : Nat
  dirty : List Nat
  sourceCount : Nat
deriving DecidableEq, Repr

/-- A pending turn (R49); the host tag is reported again when it is released (R54; log 27). -/
structure PendingTurn where
  origin : TurnOrigin
  press : Time
  hostTag : Nat
deriving DecidableEq, Repr

structure SlotUnit where
  slots : Vector Slot 4
  forward : List PendingTurn
  back : List PendingTurn
  serial : Nat
deriving DecidableEq, Repr

/-! ## Waveform unit (chapter 4) -/

/-- A mode descriptor (R59). -/
structure Mode where
  isPartial : Bool
  weight : Nat
  coldBarred : Bool
deriving DecidableEq, Repr

/-- What the unit holds of a LOADED set (R58): `tables` gives, for mode m and band b at place m × band count + b, the
table's offset and frame count. -/
structure WaveSet where
  setId : Nat
  modeCount : Nat
  bandCount : Nat
  edges : List Int
  upper : Int
  period : Nat
  cleanMode : Nat
  fallback : Nat
  modes : List Mode
  tables : List (Nat × Nat)
deriving DecidableEq, Repr

/-- How far a load has read (R62; log 11): the burst whose end is awaited or still to be granted. -/
inductive LoadStage
  | header | descriptors | offsets
  | tableHeader (k : Nat)
  | entries (k : Nat) (read : Nat)
deriving DecidableEq, Repr

structure WaveUnit where
  setState : SetState
  set : Option WaveSet
  load : Option LoadStage
  loadTag : Nat
  lastResult : LoadResult
  failCause : Nat
  failTable : Nat
  band : Option Nat
  coldLock : Bool
deriving DecidableEq, Repr

/-! ## Update queue and drive engine (chapter 5) -/

/-- An update record (R72). Its state is its place: waiting in the queue, or the lane that carries it. -/
structure UpdateRecord where
  tags : List Nat
  serial : Nat
  origin : UpdateOrigin
  source : Fin 4
  rect : Rect
  requested : Nat
  effective : Option Nat
  band : Option Nat
  flags : UpdateFlags
  queued : Time
  press : Time
  started : Option Time
  done : Option Time
deriving DecidableEq, Repr

/-- Active lane states (R81). -/
inductive LaneState | waitTemp | latch | waitRails | driving
deriving DecidableEq, Repr

/-- Where the tile in latch stands (R83): its read burst is to be granted; runs; has ended, leaving the mirror bytes
its write burst will write. -/
inductive LatchStep
  | needRead
  | reading
  | needWrite (bytes : List Host.Cell)
deriving DecidableEq, Repr

/-- A lane that carries a record (R81): tiles whose write burst has been granted, the step of the next tile, the
table's frame count, the frame index, the class-1 bursts granted for this frame or for the completion, and whether
the completion writes have begun (R85, R86). -/
structure Lane where
  upd : UpdateRecord
  state : LaneState
  tile : Nat
  step : LatchStep
  frames : Nat
  frame : Nat
  fetched : Nat
  completing : Bool
deriving DecidableEq, Repr

/-- SET-PANEL's settings (R94). -/
structure PanelSettings where
  width : Nat
  height : Nat
  ghostLimit : Nat
  pageMode : Nat
  freshness : Nat
  hold : Nat
deriving DecidableEq, Repr

/-- A drive entry that drives (R60). -/
inductive Drive | lighten | darken
deriving DecidableEq, Repr

/-- The drive of one pixel at a frame boundary (R85). -/
structure PixelDrive where
  x : Nat
  y : Nat
  drive : Drive
deriving DecidableEq, Repr

/-- The queue (oldest first), lanes (none is FREE), mirror state, ghost counts (tile place, count; unlisted is 0),
late-frame count, settings, waiting class-1 and class-5 claims, the lane last served by a latch claim, and what the
last frame boundary sent (none: nothing; the pixels not listed received NONE; log 28). -/
structure DriveEngine where
  queue : List UpdateRecord
  lanes : Vector (Option Lane) 16
  mirrorKnown : Bool
  ghost : List (Nat × Nat)
  late : Nat
  settings : PanelSettings
  claim1 : Option (Fin 16)
  claim5 : Option (Fin 16)
  lastLatch : Fin 16
  panelBus : Option (List PixelDrive)
deriving DecidableEq, Repr

/-! ## Rail sequencer (chapter 6) -/

/-- R96; `timer` is the part time at which the one timer expires, none when it is stopped. -/
structure Rail where
  state : RailState
  cause : RailCause
  count : Nat
  timer : Option Time
  good : Bool
deriving DecidableEq, Repr

/-! ## Input unit (chapter 7) -/

/-- Gesture machine states (R107). -/
inductive GestureState | released | pressed | held | wakeHeld
deriving DecidableEq, Repr

/-- One key's filter and gesture machine (R106, R107); levels are true for DOWN; `woke` marks a press that woke the
part from NAP (R112). -/
structure KeyUnit where
  raw : Bool
  debounced : Bool
  timer : Option Time
  gesture : GestureState
  holdTimer : Option Time
  repeatTimer : Option Time
  repeatIndex : Nat
  pressTime : Time
  woke : Bool
deriving DecidableEq, Repr

structure Keys where
  fwd : KeyUnit
  back : KeyUnit
  power : KeyUnit
  light : KeyUnit
deriving DecidableEq, Repr

/-- One phase's filter (R116). -/
structure PhaseUnit where
  raw : Bool
  filtered : Bool
  timer : Option Time
deriving DecidableEq, Repr

/-- Counting modes (R117). -/
inductive CountMode | edge | half | detent
deriving DecidableEq, Repr

/-- The wheel record's contents (R121). -/
structure WheelRecord where
  position : Word32
  skips : Nat
  accumulator : Int
  mode : CountMode
  time : Time
deriving DecidableEq, Repr

/-- The input unit; `keyMap` holds the action of key k and gesture g at place 3k + g (R108, R184). -/
structure InputUnit where
  keys : Keys
  keyMap : Vector KeyAction 12
  debounce : Nat
  hold : Nat
  repeatPeriod : Nat
  phaseFilter : Nat
  mode : CountMode
  wheelStep : Nat
  phaseA : PhaseUnit
  phaseB : PhaseUnit
  settledA : Bool
  settledB : Bool
  stepSum : Int
  position : Word32
  skips : Nat
  accumulator : Int
  wheelRecord : WheelRecord
deriving DecidableEq, Repr

/-! ## Light unit (chapter 8) -/

/-- Causes of the cap (R128, R184). -/
inductive CapCause | none | power | critical | inrush | low
deriving DecidableEq, Repr

/-- The seven tuning values (R135). -/
structure Tuning where
  a0 : Nat
  a1 : Nat
  floor : Nat
  lowCap : Nat
  inrushCap : Nat
  step : Nat
  prescaler : Nat
deriving DecidableEq, Repr

/-- R124; `counter` is the step counter at the last frame start, `prescaler` the one in use (R132), `coolFrame` and
`warmFrame` the duties sampled for the frames in progress (R133), and the `rec` fields the duties and time as the
light record was last changed. -/
structure LightUnit where
  level : Nat
  remembered : Nat
  warmth : Nat
  follow : Bool
  table : List Nat
  tuning : Tuning
  coolTarget : Nat
  warmTarget : Nat
  coolDuty : Nat
  warmDuty : Nat
  ramping : Bool
  factor : Nat
  cap : Nat
  capCause : CapCause
  total : Nat
  recCool : Nat
  recWarm : Nat
  recTime : Time
  counter : Nat
  running : Bool
  prescaler : Nat
  coolFrame : Nat
  warmFrame : Nat
deriving DecidableEq, Repr

/-! ## Sampler and watches (chapter 9) -/

/-- Conversion kinds (R139). -/
inductive ConvKind | driveDemand | requestDemand | periodic
deriving DecidableEq, Repr

/-- Converter states (R139); CONVERTING ends `micros` microseconds after `start`. -/
inductive Converter
  | idle
  | converting (c : Channel) (k : ConvKind) (start : Time) (micros : Nat)
  | stopped
deriving DecidableEq, Repr

/-- A waiting demand (R141). -/
inductive Demand
  | drive
  | request (c : Channel)
deriving DecidableEq, Repr

/-- One channel (R139): `conv` is the code and time of its last conversion, `value` its last value and the time of
the conversion that gave it. -/
structure ChannelUnit where
  period : Nat
  nextDue : Option Time
  due : Bool
  count : Word16
  conv : Option (Nat × Time)
  value : Option (Int × Time)
deriving DecidableEq, Repr

structure Channels where
  batt : ChannelUnit
  therm : ChannelUnit
  amb : ChannelUnit
deriving DecidableEq, Repr

structure Sampler where
  converter : Converter
  demands : List Demand
  chans : Channels
  thermFault : Bool
  beforeDeep : Bool
  scale : Nat
  therm : List (Nat × Int)
deriving DecidableEq, Repr

/-- A watch entry (R148). -/
structure Watch where
  event : WatchEvent
  origin : Int
  margin : Nat
  periodBits : Nat
  strict : Bool
  mode : WatchMode
  onTrue : WatchAction
  onFalse : WatchAction
  report : Bool
  latch : Int
  last : WatchLast
  acts : Word16
deriving DecidableEq, Repr

/-! ## Intake unit (chapter 10) -/

/-- Download states (R154). -/
inductive DownloadState | free | openState | complete | aborted
deriving DecidableEq, Repr

/-- A place of a chunk map (R154). -/
inductive Place | missing | good | bad
deriving DecidableEq, Repr

/-- A download entry (R154); `map` lists the places that are not MISSING. -/
structure Download where
  state : DownloadState
  tag : Nat
  chunkSize : Nat
  chunkCount : Nat
  offset : Nat
  map : List (Nat × Place)
  good : Nat
  bad : Nat
  duplicates : Nat
  lastLength : Nat
  inFlight : List Nat
deriving DecidableEq, Repr

/-- Chunk kinds (R162). -/
inductive ChunkKind | copy | length | abort | ignore
deriving DecidableEq, Repr

/-- A chunk whose kind has been decided (R162, R163): `taken` payload bytes have passed. -/
structure Chunk where
  kind : ChunkKind
  entry : Fin 4
  index : Nat
  length : Nat
  taken : Nat
  crc : Word32
deriving DecidableEq, Repr

/-- Parser states (R160). -/
inductive Parser
  | hunt (window : List Byte)
  | header (got : List Byte)
  | payload (c : Chunk)
  | check (c : Chunk) (got : List Byte)
  | syncExpect (got : List Byte)
deriving DecidableEq, Repr

/-- A check group (R164). -/
structure CheckGroup where
  entry : Fin 4
  index : Nat
  kind : ChunkKind
  length : Nat
  crc : Word32
  check : Word32
deriving DecidableEq, Repr

/-- The copy buffer's items (R164). -/
inductive CopyItem
  | payload (entry : Fin 4) (addr : Nat) (b : Byte)
  | group (g : CheckGroup)
deriving DecidableEq, Repr

structure Intake where
  entries : Vector Download 4
  cursor : Nat
  parser : Parser
  buffer : List CopyItem
  copying : Nat
  headerErrors : Nat
  syncLosses : Nat
  breaks : Nat
  unknown : Nat
  outOfRange : Nat
  recFill : Nat
deriving DecidableEq, Repr

/-! ## Power controller (chapter 11) -/

/-- R172; `napAfter` in ms, `deepAfter` and `grace` in s; timers are the part time of their expiry, none when
stopped; `restarting` while a RESTART waits for its lanes (R183); the `rec` fields as the power record was last
changed. -/
structure Power where
  state : PowerState
  reason : DepartReason
  battery : Battery
  napAfter : Nat
  deepAfter : Nat
  grace : Nat
  napTimer : Option Time
  deepTimer : Option Time
  graceTimer : Option Time
  napDue : Bool
  activityTime : Time
  lastWake : WakeCause
  release : Option Release
  graceBegan : Time
  deepEntered : Time
  restarting : Bool
  recActivity : Time
  recTime : Time
deriving DecidableEq, Repr

/-! ## The whole part -/

/-- The state: the queue of waiting commands (the model's own, first in first out), part time, memory, and the state
each block owns (00_scope.md 0.2). -/
structure State where
  pending : List Instr
  time : Time
  mem : Memory
  link : Link
  guard : Guard
  port : Port
  request : RequestUnit
  report : ReportUnit
  slot : SlotUnit
  wave : WaveUnit
  drive : DriveEngine
  rail : Rail
  input : InputUnit
  light : LightUnit
  sampler : Sampler
  watches : Vector Watch 8
  intake : Intake
  power : Power
deriving DecidableEq, Repr

/-! ## Reset values -/

/-- An emptied ring of a given capacity, enabled (R31, R32). -/
def Ring.reset (capacity : Nat) : Ring := ⟨0#16, 0#16, List.replicate capacity Entry.none, true, []⟩

/-- R31, R32, R36. -/
def ReportUnit.reset : ReportUnit :=
  { rings := ⟨.reset 8, .reset 16, .reset 32, .reset 16, .reset 16, .reset 32⟩, stack := [], value := none }

/-- The records INIT changes (R18, R182), in the order their places are taken: DESIGN CHOICE (log 7). -/
def initRecords : List RecordId :=
  [.identity, .guard, .power, .slotTable, .display, .laneTable, .light, .samples, .wheel, .intake, .downloads]
  ++ (List.range 8).map (.entryPlace .power) ++ (List.range 16).map (.entryPlace .input)
  ++ (List.range 32).map (.entryPlace .display) ++ (List.range 16).map (.entryPlace .intake)
  ++ (List.range 16).map (.entryPlace .watch) ++ (List.range 32).map (.entryPlace .reply)
  ++ [.ringHeader .power, .ringHeader .input, .ringHeader .display, .ringHeader .intake, .ringHeader .watch,
      .ringHeader .reply, .noticeWord]

/-- R18: SERVING, no claim, starvation 0, and INIT's record changes in the queue. -/
def Port.reset : Port :=
  { retention := .serving, burst := none, starvation := 0, queue := initRecords.map .write,
    initLeft := initRecords.length }

/-- R13. -/
def Guard.reset : Guard := ⟨0, 0, 0, 0, 0, 0⟩

/-- R4; the upstream lanes' observation fields are empty (log 22). -/
def Link.reset : Link := ⟨.idle, [], 0⟩

def Slot.reset (r : Role) : Slot := ⟨r, false, 0, [], 0⟩

/-- R39. -/
def SlotUnit.reset : SlotUnit :=
  { slots := #v[.reset .shown, .reset .ahead, .reset .behind, .reset .spare], forward := [], back := [], serial := 0 }

/-- R58, R69, R70. -/
def WaveUnit.reset : WaveUnit :=
  { setState := .unloaded, set := none, load := none, loadTag := 0, lastResult := .unloaded, failCause := 0,
    failTable := 0, band := none, coldLock := false }

/-- R94. -/
def PanelSettings.reset : PanelSettings := ⟨1872, 1404, 6, 0, 60, 1500⟩

/-- R73, R81, R85, R88, R89, R94; the latch search starts at lane 0 (log 16). -/
def DriveEngine.reset : DriveEngine :=
  { queue := [], lanes := Vector.replicate 16 none, mirrorKnown := false, ghost := [], late := 0,
    settings := .reset, claim1 := none, claim5 := none, lastLatch := 15, panelBus := none }

/-- R96, with rail good at the level given. -/
def Rail.reset (good : Bool) : Rail := ⟨.off, .none, 0, none, good⟩

/-- R106, R107, with the key at the raw level given. -/
def KeyUnit.reset (raw : Bool) : KeyUnit := ⟨raw, raw, none, .released, none, none, 0, 0#32, false⟩

/-- R116, with the phase at the raw level given. -/
def PhaseUnit.reset (raw : Bool) : PhaseUnit := ⟨raw, raw, none⟩

/-- The default key map (R108). -/
def defaultKeyMap : Vector KeyAction 12 :=
  #v[.turnFwd, .turnFwd, .turnFwd, .turnBack, .turnBack, .turnBack, .sleepRequest, .notify, .none,
     .lightToggle, .lightUp, .lightUp]

/-- R106, R107, R108, R116..R121, R123, at the raw levels given and at a part time. -/
def InputUnit.reset (fwd back power light a b : Bool) (time : Time) : InputUnit :=
  { keys := ⟨.reset fwd, .reset back, .reset power, .reset light⟩, keyMap := defaultKeyMap,
    debounce := 10, hold := 700, repeatPeriod := 400, phaseFilter := 2, mode := .edge, wheelStep := 4,
    phaseA := .reset a, phaseB := .reset b, settledA := a, settledB := b, stepSum := 0, position := 0#32, skips := 0,
    accumulator := 0, wheelRecord := ⟨0#32, 0, 0, .edge, time⟩ }

/-- R124, at a part time. -/
def LightUnit.reset (time : Time) : LightUnit :=
  { level := 0, remembered := 0, warmth := 8, follow := false,
    table := (List.range 64).map fun i => i * 1000 / 63,
    tuning := ⟨64, 640, 300, 400, 300, 40, 24⟩,
    coolTarget := 0, warmTarget := 0, coolDuty := 0, warmDuty := 0, ramping := false,
    factor := 1000, cap := 1000, capCause := .none, total := 0, recCool := 0, recWarm := 0, recTime := time,
    counter := 0, running := true, prescaler := 24, coolFrame := 0, warmFrame := 0 }

/-- A channel after reset: due at once (R139). Its next due time is absent until its first conversion begins (DESIGN
CHOICE, log 47). -/
def ChannelUnit.reset (period : Nat) : ChannelUnit := ⟨period, none, true, 0#16, none, none⟩

/-- The default thermistor table (R145). -/
def defaultTherm : List (Nat × Int) :=
  [(120, 600), (250, 420), (400, 250), (520, 100), (640, -20), (760, -130), (860, -220), (940, -300)]

/-- R139, R145. -/
def Sampler.reset : Sampler :=
  { converter := .idle, demands := [], chans := ⟨.reset 10000, .reset 30000, .reset 1000⟩, thermFault := false,
    beforeDeep := false, scale := 5120, therm := defaultTherm }

/-- R148. -/
def Watch.reset : Watch := ⟨.batt, 0, 0, 0, false, .off, .none, .none, false, 0, .unset, 0#16⟩

/-- R154. -/
def Download.reset : Download := ⟨.free, 0, 0, 0, 0, [], 0, 0, 0, 0, []⟩

/-- R171. -/
def Intake.reset : Intake :=
  { entries := Vector.replicate 4 .reset, cursor := 0, parser := .hunt [], buffer := [], copying := 0,
    headerErrors := 0, syncLosses := 0, breaks := 0, unknown := 0, outOfRange := 0, recFill := 0 }

/-- R172, R174, R182, at a part time. -/
def Power.reset (time : Time) : Power :=
  { state := .init, reason := .timer, battery := .normal, napAfter := 3000, deepAfter := 1800, grace := 15,
    napTimer := none, deepTimer := none, graceTimer := none, napDue := false, activityTime := 0#32,
    lastWake := .none, release := none, graceBegan := 0#32, deepEntered := 0#32, restarting := false,
    recActivity := 0#32, recTime := time }

/-- The part right after power-on reset (R182), before its first decision (log 6): every block at its chapter's reset
value, the power controller in INIT with INIT's record changes queued, nothing listed in memory (log 4), and the
input pins at rest: keys UP, ring phases low, rail good low (log 5). -/
def State.reset : State :=
  { pending := [], time := 0#32, mem := [], link := .reset, guard := .reset, port := .reset,
    request := ⟨[], none⟩, report := .reset, slot := .reset, wave := .reset, drive := .reset,
    rail := .reset false, input := .reset false false false false false false 0#32, light := .reset 0#32,
    sampler := .reset, watches := Vector.replicate 8 .reset, intake := .reset, power := .reset 0#32 }

end Sys2Proof.Machine
end

