-- ==== Sys2Proof/Machine/Ops.lean ====
section
/-! DEFINITION. The shared operations: state updates by field, numbers and bytes, sparse tables and memory, the
record-write queue (R16), report rings and the notice (R28, R29, R33), and activity (R173). -/

namespace Sys2Proof.Machine

/-! ## Updates of one field -/

def State.setPending (s : State) (x : List Instr) : State := { s with pending := x }
def State.setTime (s : State) (x : Time) : State := { s with time := x }
def State.setMem (s : State) (x : Memory) : State := { s with mem := x }
def State.setLink (s : State) (x : Link) : State := { s with link := x }
def State.setGuard (s : State) (x : Guard) : State := { s with guard := x }
def State.setPort (s : State) (x : Port) : State := { s with port := x }
def State.setRequest (s : State) (x : RequestUnit) : State := { s with request := x }
def State.setReport (s : State) (x : ReportUnit) : State := { s with report := x }
def State.setSlot (s : State) (x : SlotUnit) : State := { s with slot := x }
def State.setWave (s : State) (x : WaveUnit) : State := { s with wave := x }
def State.setDrive (s : State) (x : DriveEngine) : State := { s with drive := x }
def State.setRail (s : State) (x : Rail) : State := { s with rail := x }
def State.setInput (s : State) (x : InputUnit) : State := { s with input := x }
def State.setLight (s : State) (x : LightUnit) : State := { s with light := x }
def State.setSampler (s : State) (x : Sampler) : State := { s with sampler := x }
def State.setWatches (s : State) (x : Vector Watch 8) : State := { s with watches := x }
def State.setIntake (s : State) (x : Intake) : State := { s with intake := x }
def State.setPower (s : State) (x : Power) : State := { s with power := x }

/-! ## Numbers and bytes (00_scope.md 0.4, R1) -/

/-- R24: a value brought into a range. -/
def clamp (lo hi v : Nat) : Nat := if v < lo then lo else if hi < v then hi else v

/-- A period setting: 0 is kept, any other value is brought into the range (R123, R146, R174). -/
def clampOrZero (lo hi v : Nat) : Nat := if v = 0 then 0 else clamp lo hi v

/-- A count that saturates at `top` (00_scope.md 0.4). -/
def satInc (top n : Nat) : Nat := min (n + 1) top

/-- The `n` little-endian bytes of a value. -/
def leBytes : Nat → Nat → List Byte
  | 0, _ => []
  | n + 1, v => BitVec.ofNat 8 v :: leBytes n (v / 256)

/-- The value of little-endian bytes. -/
def leValue : List Byte → Nat
  | [] => 0
  | b :: bs => b.toNat + 256 * leValue bs

/-- The `n` little-endian bytes of a signed value in two's complement. -/
def intBytes (n : Nat) (v : Int) : List Byte := leBytes n (v % (2 ^ (8 * n) : Nat)).toNat

/-- The signed reading of a value of `bits` bits. -/
def signedOf (bits v : Nat) : Int := if v < 2 ^ (bits - 1) then (v : Int) else (v : Int) - (2 ^ bits : Nat)

/-- Bytes filled with zeros up to a record's size: reserved bytes are written as 0 (chapter 12). -/
def padTo (size : Nat) (bytes : List Byte) : List Byte := bytes ++ List.replicate (size - bytes.length) 0#8

def flagBit (b : Bool) (bit : Nat) : Nat := if b then 2 ^ bit else 0

/-- Part time `ms` from now, modulo 2^32. -/
def State.after (s : State) (ms : Nat) : Time := s.time + BitVec.ofNat 32 ms

/-- The difference of two times, modulo 2^32 (00_scope.md 0.4). -/
def timeSince (now before : Time) : Nat := (now - before).toNat

/-! ## Sparse tables in one canonical form

A table is a list of (place, value) with places strictly rising and no value equal to the one `d` that an unlisted
place holds. Memory, ghost counts and chunk maps are such tables. -/

def sparseGet {α : Type} (d : α) : List (Nat × α) → Nat → α
  | [], _ => d
  | (k, v) :: rest, a => if k = a then v else if a < k then d else sparseGet d rest a

def sparseSet {α : Type} [DecidableEq α] (d : α) : List (Nat × α) → Nat → α → List (Nat × α)
  | [], a, v => if v = d then [] else [(a, v)]
  | (k, w) :: rest, a, v =>
    if a < k then (if v = d then (k, w) :: rest else (a, v) :: (k, w) :: rest)
    else if a = k then (if v = d then rest else (a, v) :: rest)
    else (k, w) :: sparseSet d rest a v

/-- The canonical form, given a bound that every place is at or above. -/
def sparseWfFrom {α : Type} [DecidableEq α] (d : α) : Nat → List (Nat × α) → Bool
  | _, [] => true
  | lo, (k, v) :: rest => decide (lo ≤ k) && !decide (v = d) && sparseWfFrom d (k + 1) rest

def sparseWf {α : Type} [DecidableEq α] (d : α) (t : List (Nat × α)) : Bool := sparseWfFrom d 0 t

/-! Sets of places, ascending (dirty tile maps, in-flight sets). -/

def setInsert : List Nat → Nat → List Nat
  | [], a => [a]
  | k :: rest, a => if a < k then a :: k :: rest else if a = k then k :: rest else k :: setInsert rest a

def setErase (l : List Nat) (a : Nat) : List Nat := l.filter (· ≠ a)

/-! ## Memory -/

/-- What memory holds at an address (taken modulo 32 MiB: R2's wrap). -/
def readByte (m : Memory) (a : Nat) : Byte := sparseGet Config.unwritten m (a % Config.memSize)

/-- The one way a byte of memory changes. -/
def writeByte (m : Memory) (a : Nat) (b : Byte) : Memory := sparseSet Config.unwritten m (a % Config.memSize) b

/-- The canonical form of memory: addresses strictly rising, below 32 MiB, none holding what an unlisted one reads. -/
def Memory.wf (m : Memory) : Bool :=
  sparseWf Config.unwritten m && m.all fun c => decide (c.1 < Config.memSize)

def readBytes (m : Memory) (a : Nat) : Nat → List Byte
  | 0 => []
  | n + 1 => readByte m a :: readBytes m (a + 1) n

def readValue (m : Memory) (a n : Nat) : Nat := leValue (readBytes m a n)

def writeCells (m : Memory) (cells : List Host.Cell) : Memory := cells.foldl (fun m c => writeByte m c.1 c.2) m

/-- The cells of bytes at successive addresses. -/
def cellsAt (a : Nat) : List Byte → List Host.Cell
  | [] => []
  | b :: bs => (a, b) :: cellsAt (a + 1) bs

/-! ## The record-write queue (R16) -/

/-- R16: a changed record takes a place at the tail, or keeps the place of its waiting write. Where one event changes
several records, the order of their changes is the model's unless a rule states it (DESIGN CHOICE, log 42). -/
def changeRecord (r : RecordId) (s : State) : State :=
  if QueueItem.write r ∈ s.port.queue then s
  else s.setPort { s.port with queue := s.port.queue ++ [.write r] }

/-- The power record is changed: it shows the activity time as it stands and the time of the change (R172). -/
def changePower (s : State) : State :=
  changeRecord .power (s.setPower { s.power with recActivity := s.power.activityTime, recTime := s.time })

/-- The light record is changed: it shows the present duties as they stand and the time of the change (R124). -/
def changeLight (s : State) : State :=
  changeRecord .light (s.setLight
    { s.light with recCool := s.light.coolDuty, recWarm := s.light.warmDuty, recTime := s.time })

/-! ## Report rings and the notice (R28, R29, R33) -/

/-- The source id of a ring, 1 the highest priority (R26, R184). -/
def RingId.id : RingId → Nat
  | .power => 1 | .input => 2 | .display => 3 | .intake => 4 | .watch => 5 | .reply => 6

def RingId.capacity : RingId → Nat
  | .power => 8 | .input => 16 | .display => 32 | .intake => 16 | .watch => 16 | .reply => 32

/-- The entries' offset in the ring page (R184). -/
def RingId.offset : RingId → Nat
  | .power => 0x100 | .input => 0x180 | .display => 0x280 | .intake => 0x480 | .watch => 0x580 | .reply => 0x680

def RingId.ofId : Nat → Option RingId
  | 1 => some .power | 2 => some .input | 3 => some .display | 4 => some .intake | 5 => some .watch
  | 6 => some .reply | _ => none

/-- The rings from the highest priority to the lowest. -/
def ringIds : List RingId := [.power, .input, .display, .intake, .watch, .reply]

def Rings.get (r : Rings) : RingId → Ring
  | .power => r.power | .input => r.input | .display => r.display | .intake => r.intake | .watch => r.watch
  | .reply => r.reply

def Rings.set (r : Rings) (i : RingId) (x : Ring) : Rings :=
  match i with
  | .power => { r with power := x } | .input => { r with input := x } | .display => { r with display := x }
  | .intake => { r with intake := x } | .watch => { r with watch := x } | .reply => { r with reply := x }

/-- U = (P − C) modulo 65536 (R28). -/
def Ring.unread (r : Ring) : Nat := (r.produced - r.consumed).toNat

/-- The written count (R16): up to the oldest entry whose placing no granted write has carried. -/
def Ring.written (r : Ring) : Word16 := r.ungranted.headD r.produced

def State.ring (s : State) (i : RingId) : Ring := s.report.rings.get i

def State.setRing (s : State) (i : RingId) (x : Ring) : State :=
  s.setReport { s.report with rings := s.report.rings.set i x }

/-- R33: a source is pending while its ring has unread entries and it is enabled. -/
def sourcePending (r : Rings) (i : RingId) : Bool := (r.get i).enabled && decide (0 < (r.get i).unread)

/-- R33, R34: higher priority than the top of the stack, or the stack is empty. -/
def aboveTop (stack : List RingId) (i : RingId) : Bool :=
  match stack with
  | [] => true
  | top :: _ => decide (i.id < top.id)

/-- R33: the notice value. -/
def noticeOf (u : ReportUnit) : Option RingId :=
  ringIds.find? fun i => sourcePending u.rings i && !u.stack.contains i && aboveTop u.stack i

/-- R33: the value is recomputed, and the notice-word record changes with it. -/
def recomputeNotice (s : State) : State :=
  let v := noticeOf s.report
  if v = s.report.value then s
  else changeRecord .noticeWord (s.setReport { s.report with value := v })

/-- The place an entry goes to, and the ring after it: R28 while there is room, R29 when the ring is full. -/
def placeEntry (capacity : Nat) (r : Ring) (e : Entry) : Nat × Ring :=
  if r.unread < capacity then
    let place := r.produced.toNat % capacity
    (place, { r with
      places := r.places.set place { e with overrun := false }
      produced := r.produced + 1#16
      ungranted := r.ungranted ++ [r.produced] })
  else
    let place := (r.produced - 1#16).toNat % capacity
    (place, { r with places := r.places.set place { e with overrun := true } })

/-- A block produces an entry into a ring (R28, R29); the notice follows (R33). -/
def produce (i : RingId) (body : EntryBody) (tag : Nat) (s : State) : State :=
  let p := placeEntry i.capacity (s.ring i) ⟨body, false, tag, s.time⟩
  recomputeNotice (changeRecord (.entryPlace i p.1) (s.setRing i p.2))

/-- R16: a granted write of an entry place counts as the granting of every entry whose placing it carried. -/
def grantEntry (i : RingId) (place : Nat) (s : State) : State :=
  let r := s.ring i
  let r' := { r with ungranted := r.ungranted.filter fun p => p.toNat % i.capacity ≠ place }
  let s' := s.setRing i r'
  if r'.written = r.written then s' else changeRecord (.ringHeader i) s'

/-- R25: a held table read is released. -/
def QueueItem.serve : QueueItem → QueueItem
  | .write r => .write r
  | .tableRead t _ => .tableRead t false

/-- R17, R25: the port reaches SERVING, which releases the table reads that waited for it. -/
def Port.serve (p : Port) : Port := { p with retention := .serving, queue := p.queue.map QueueItem.serve }

/-- R16, R25: the head of the record-write queue claims the port, unless it is a table read that waits for SERVING; what
stands behind such a read waits with it (DESIGN CHOICE, log 41). -/
def Port.recordClaim (p : Port) : Bool :=
  match p.queue with
  | [] => false
  | .write _ :: _ => true
  | .tableRead _ held :: _ => !held || decide (p.retention = .serving)

/-! ## Activity (R173) -/

/-- A timer at a setting in ms: stopped when the setting is 0. -/
def timerAt (now : Time) (ms : Nat) : Option Time := if ms = 0 then none else some (now + BitVec.ofNat 32 ms)

/-- The nap and deep timers started afresh at their full settings (R173). -/
def Power.startTimers (p : Power) (now : Time) : Power :=
  { p with napTimer := timerAt now p.napAfter, deepTimer := timerAt now (p.deepAfter * 1000) }

/-- Awake or napping, with no RESTART waiting: the states in which activity restarts the timers (R173, R183). -/
def Power.timersRun (p : Power) : Bool :=
  !p.restarting && match p.state with
    | .active | .doze | .nap => true
    | .init | .departing _ | .deep => false

/-- R173: an activity report; in DOZE it also withdraws the release request (R175). -/
def Power.activity (p : Power) (now : Time) : Power :=
  let p' := { p with activityTime := now }
  if p.timersRun then
    { p'.startTimers now with
      napDue := false
      release := if p.state = .doze then none else p.release }
  else p'

def reportActivity (s : State) : State := s.setPower (s.power.activity s.time)

/-! ## Tables by name -/

def Keys.get (k : Keys) : Key → KeyUnit
  | .fwd => k.fwd | .back => k.back | .power => k.power | .light => k.light

def Keys.set (k : Keys) (i : Key) (x : KeyUnit) : Keys :=
  match i with
  | .fwd => { k with fwd := x } | .back => { k with back := x } | .power => { k with power := x }
  | .light => { k with light := x }

def Channels.get (c : Channels) : Channel → ChannelUnit
  | .batt => c.batt | .therm => c.therm | .amb => c.amb

def Channels.set (c : Channels) (i : Channel) (x : ChannelUnit) : Channels :=
  match i with
  | .batt => { c with batt := x } | .therm => { c with therm := x } | .amb => { c with amb := x }

/-- The lane numbers, lowest first. -/
def laneIds : List (Fin 16) := [0, 1, 2, 3, 4, 5, 6, 7, 8, 9, 10, 11, 12, 13, 14, 15]

/-- The slot and download entry numbers, lowest first. -/
def fourIds : List (Fin 4) := [0, 1, 2, 3]

/-- The watch numbers, lowest first. -/
def watchIds : List (Fin 8) := [0, 1, 2, 3, 4, 5, 6, 7]

/-! ## Slots and lanes -/

def State.slotAt (s : State) (n : Fin 4) : Slot := s.slot.slots[n]

def State.setSlotAt (s : State) (n : Fin 4) (x : Slot) : State :=
  s.setSlot { s.slot with slots := s.slot.slots.set n x }

/-- The slot that carries a role (R38: the four roles are on the four slots, one each). -/
def SlotUnit.withRole (u : SlotUnit) (r : Role) : Fin 4 := (fourIds.find? fun n => u.slots[n].role = r).getD 0

def State.lane (s : State) (i : Fin 16) : Option Lane := s.drive.lanes[i]

def State.setLane (s : State) (i : Fin 16) (x : Option Lane) : State :=
  s.setDrive { s.drive with lanes := s.drive.lanes.set i x }

/-- The active lanes with their numbers, lowest first. -/
def DriveEngine.active (d : DriveEngine) : List (Fin 16 × Lane) :=
  laneIds.filterMap fun i => (d.lanes[i]).map fun l => (i, l)

/-- The number of active lanes, which is the number of lanes requesting the rails (R96). -/
def activeCount (s : State) : Nat := s.drive.active.length

/-! ## The panel geometry (R75) -/

/-- tw = ceil(width / 32). -/
def PanelSettings.tw (p : PanelSettings) : Nat := (p.width + 31) / 32
/-- th = ceil(height / 32). -/
def PanelSettings.th (p : PanelSettings) : Nat := (p.height + 31) / 32

/-- The whole panel in the geometry in force. -/
def PanelSettings.whole (p : PanelSettings) : Rect := ⟨0, 0, p.tw - 1, p.th - 1⟩

/-- The tile place of tile (tx, ty). -/
def tilePlace (tx ty : Nat) : Nat := Config.tileColumns * ty + tx

/-- A tile place that lies inside the geometry. -/
def PanelSettings.hasPlace (p : PanelSettings) (place : Nat) : Bool :=
  decide (place % Config.tileColumns < p.tw) && decide (place / Config.tileColumns < p.th)

/-- Two rectangles share a tile (00_scope.md 0.4). -/
def Rect.overlaps (a b : Rect) : Bool :=
  decide (a.tx0 ≤ b.tx1) && decide (b.tx0 ≤ a.tx1) && decide (a.ty0 ≤ b.ty1) && decide (b.ty0 ≤ a.ty1)

/-- They do not overlap, but a tile of one is a horizontal or vertical neighbour of a tile of the other. -/
def Rect.edgeTouches (a b : Rect) : Bool :=
  !a.overlaps b &&
  ((decide (a.tx0 ≤ b.tx1 + 1) && decide (b.tx0 ≤ a.tx1 + 1) && decide (a.ty0 ≤ b.ty1) && decide (b.ty0 ≤ a.ty1)) ||
   (decide (a.tx0 ≤ b.tx1) && decide (b.tx0 ≤ a.tx1) && decide (a.ty0 ≤ b.ty1 + 1) && decide (b.ty0 ≤ a.ty1 + 1)))

/-- The bounding rectangle of two. -/
def Rect.join (a b : Rect) : Rect := ⟨min a.tx0 b.tx0, min a.ty0 b.ty0, max a.tx1 b.tx1, max a.ty1 b.ty1⟩

/-- The tile places of one row of tiles, left to right. -/
def rowPlaces (ty tx : Nat) : Nat → List Nat
  | 0 => []
  | n + 1 => tilePlace tx ty :: rowPlaces ty (tx + 1) n

/-- The tile places of rows of tiles, in the order of R83. -/
def rowsPlaces (tx cols ty : Nat) : Nat → List Nat
  | 0 => []
  | n + 1 => rowPlaces ty tx cols ++ rowsPlaces tx cols (ty + 1) n

/-- The tiles of a rectangle in the latch order of R83. -/
def Rect.places (r : Rect) : List Nat := rowsPlaces r.tx0 (r.tx1 + 1 - r.tx0) r.ty0 (r.ty1 + 1 - r.ty0)

/-- The number of a slot's set flags inside the geometry (R39). -/
def dirtyCount (p : PanelSettings) (x : Slot) : Nat := (x.dirty.filter p.hasPlace).length

/-- The highest ghost count among the tiles inside the geometry (R89). -/
def highestGhost (d : DriveEngine) : Nat :=
  (d.ghost.filter fun g => d.settings.hasPlace g.1).foldl (fun m g => max m g.2) 0

/-- A change of ghost counts; the display record changes when the highest count does (R89). -/
def setGhost (s : State) (g : List (Nat × Nat)) : State :=
  let s' := s.setDrive { s.drive with ghost := g }
  if highestGhost s'.drive = highestGhost s.drive then s' else changeRecord .display s'

/-! ## Output lines -/

/-- R4: the wait line is asserted in HELD and CLAIMING. -/
def waitLine (s : State) : Bool :=
  match s.link.phase with
  | .held _ | .claiming _ => true
  | .idle | .data _ | .off => false

/-- R33: the line is asserted while the value names a source. -/
def noticeLine (s : State) : Bool := s.report.value.isSome

/-- R172: host enable is low in DEEP only. -/
def hostEnable (s : State) : Bool := s.power.state ≠ .deep

/-- R172: the slow clock runs the part in NAP and DEEP. -/
def slowClock (s : State) : Bool := decide (s.power.state = .nap ∨ s.power.state = .deep)

/-- R96: rail enable is high in RISING, ON and HOLD. -/
def railEnable (s : State) : Bool :=
  match s.rail.state with
  | .rising | .on | .hold => true
  | .off | .falling | .fault => false

/-- R133: COOL is on while the counter is below the duty sampled for its frame. -/
def coolOutput (s : State) (counter : Nat) : Bool := s.light.running && decide (counter < s.light.coolFrame)

/-- R133: WARM is on while (counter − 500) modulo 1000 is below the duty sampled for its frame. -/
def warmOutput (s : State) (counter : Nat) : Bool :=
  s.light.running && decide ((counter + 500) % 1000 < s.light.warmFrame)

end Sys2Proof.Machine
end

