-- ==== Sys2Proof/Machine/Flags.lean ====
section
/-! DEFINITION. The numeric codes of names and the flag bytes (12.2, R186), written from the tables of chapter 12. -/

namespace Sys2Proof.Machine

def bitOf (b : Bool) : Nat := if b then 1 else 0

def Role.code : Role → Nat | .shown => 0 | .ahead => 1 | .behind => 2 | .spare => 3
def Dir.code : Dir → Nat | .forward => 0 | .back => 1
def TurnOrigin.code : TurnOrigin → Nat | .key => 0 | .wheel => 1 | .request => 2

/-- 1..13 in the order of the reason table of R23. -/
def Reason.code : Reason → Nat
  | .badCode => 1 | .badArg => 2 | .busy => 3 | .queueFull => 4 | .notReady => 5 | .fault => 6 | .state => 7
  | .tableFull => 8 | .overlap => 9 | .notFound => 10 | .tooLate => 11 | .badTable => 12 | .emptySlot => 13

/-- Bit 0 CLAMPED, bit 1 NOTHING-TO-DO, bit 2 MERGED. -/
def Detail.code (d : Detail) : Nat := flagBit d.clamped 0 + flagBit d.nothingToDo 1 + flagBit d.merged 2

def Reply.outcomeCode : Reply → Nat | .done _ _ => 1 | .accepted _ _ => 2 | .refused _ => 3
def Reply.detailCode : Reply → Nat | .done d _ => d.code | .accepted d _ => d.code | .refused r => r.code
def Reply.result : Reply → Word32 | .done _ v => v | .accepted _ v => v | .refused _ => 0#32

def TurnOutcome.code : TurnOutcome → Nat
  | .started => 0 | .pending => 1 | .cancelledPending => 2 | .dropped => 3 | .refused _ => 4
def TurnOutcome.reasonCode : TurnOutcome → Nat | .refused r => r.code | _ => 0

def UpdateOrigin.code : UpdateOrigin → Nat | .request => 0 | .turn => 1 | .jump => 2
def UpdateOutcome.code : UpdateOutcome → Nat
  | .done => 0 | .aborted => 1 | .dropped => 2 | .cancelled => 3 | .superseded => 4
def EmptyCause.code : EmptyCause → Nat | .write => 0 | .adjacency => 1 | .jump => 2
def RailState.code : RailState → Nat
  | .off => 0 | .rising => 1 | .on => 2 | .hold => 3 | .falling => 4 | .fault => 5
def RailCause.code : RailCause → Nat | .none => 0 | .riseTimeout => 1 | .dropout => 2 | .fallSlow => 3
def keyCode : Key → Nat | .fwd => 0 | .back => 1 | .power => 2 | .light => 3
def Gesture.code : Gesture → Nat | .tap => 0 | .hold => 1 | .repeat => 2

def KeyAction.code : KeyAction → Nat
  | .none => 0 | .turnFwd => 1 | .turnBack => 2 | .lightToggle => 3 | .lightUp => 4 | .lightDown => 5 | .notify => 6
  | .sleepRequest => 7

def KeyAction.ofCode : Nat → Option KeyAction
  | 0 => some .none | 1 => some .turnFwd | 2 => some .turnBack | 3 => some .lightToggle | 4 => some .lightUp
  | 5 => some .lightDown | 6 => some .notify | 7 => some .sleepRequest | _ => Option.none

def WatchEvent.code : WatchEvent → Nat | .batt => 0 | .therm => 1 | .amb => 2 | .wheel => 3
def WatchEvent.ofCode : Nat → Option WatchEvent
  | 0 => some .batt | 1 => some .therm | 2 => some .amb | 3 => some .wheel | _ => none
def WatchMode.code : WatchMode → Nat | .off => 0 | .once => 1 | .edge => 2 | .every => 3
def WatchMode.ofCode : Nat → Option WatchMode
  | 0 => some .off | 1 => some .once | 2 => some .edge | 3 => some .every | _ => none
def WatchAction.code : WatchAction → Nat
  | .none => 0 | .battNormal => 1 | .battLow => 2 | .battCritical => 3 | .coldOn => 4 | .coldOff => 5
def WatchAction.ofCode : Nat → Option WatchAction
  | 0 => some .none | 1 => some .battNormal | 2 => some .battLow | 3 => some .battCritical | 4 => some .coldOn
  | 5 => some .coldOff | _ => Option.none
def WatchLast.code : WatchLast → Nat | .unset => 0 | .true => 1 | .false => 2

def DepartPhase.code : DepartPhase → Nat | .grace => 0 | .drain => 1
def PowerState.code : PowerState → Nat
  | .init => 0 | .active => 1 | .doze => 2 | .nap => 3 | .departing _ => 4 | .deep => 5
/-- The phase shown outside DEPARTING is coded 0 (DESIGN CHOICE, log 18). -/
def PowerState.phaseCode : PowerState → Nat
  | .departing p => p.code
  | .init | .active | .doze | .nap | .deep => 0
def DepartReason.code : DepartReason → Nat | .timer => 0 | .critical => 1 | .request => 2
def Battery.code : Battery → Nat | .normal => 0 | .low => 1 | .critical => 2
def WakeCause.code : WakeCause → Nat
  | .none => 0 | .key => 1 | .wheel => 2 | .watch => 3 | .transaction => 4 | .powerKey => 5

def SetState.code : SetState → Nat | .unloaded => 0 | .loading => 1 | .loaded => 2 | .failed => 3
def LoadResult.code : LoadResult → Nat | .loaded => 0 | .failed => 1 | .unloaded => 2
/-- FREE is 0 (a lane that carries no record). -/
def LaneState.code : LaneState → Nat | .waitTemp => 1 | .latch => 2 | .waitRails => 3 | .driving => 4
def BadCause.code : BadCause → Nat | .crc => 1 | .length => 2
def CountMode.code : CountMode → Nat | .edge => 0 | .half => 1 | .detent => 2
def CountMode.ofCode : Nat → Option CountMode | 0 => some .edge | 1 => some .half | 2 => some .detent | _ => none
def channelOfCode : Nat → Option Channel | 0 => some .batt | 1 => some .therm | 2 => some .amb | _ => none
def CapCause.code : CapCause → Nat | .none => 0 | .power => 1 | .critical => 2 | .inrush => 3 | .low => 4
def Parser.code : Parser → Nat
  | .hunt _ => 0 | .header _ => 1 | .payload _ => 2 | .check _ _ => 3 | .syncExpect _ => 4
def DownloadState.code : DownloadState → Nat | .free => 0 | .openState => 1 | .complete => 2 | .aborted => 3
def Place.code : Place → Nat | .missing => 0 | .good => 1 | .bad => 2

/-- A band or mode field: 0xFF stands for none (12.1, R186). -/
def orNone (v : Option Nat) : Nat := v.getD 0xFF

/-- The update flags at the bits they have in an UPDATE-END entry (R186). -/
def UpdateFlags.code (f : UpdateFlags) : Nat :=
  flagBit f.ghostPromoted 1 + flagBit f.unknownPromoted 2 + flagBit f.substituted 3 + flagBit f.coldClamp 4
  + flagBit f.hotClamp 5 + flagBit f.thermFault 6

/-- The kind of an entry (R186). -/
def EntryBody.kind : EntryBody → Nat
  | .none => 0 | .reply .. => 1 | .key .. => 2 | .turn .. => 3 | .slotEmptied .. => 4 | .updateEnd .. => 5
  | .waveform .. => 6 | .railFault .. => 7 | .streamBreak .. => 8 | .chunkBad .. => 9 | .bookComplete .. => 10
  | .bookAborted .. => 11 | .watch .. => 12 | .departure .. => 13 | .departureCancelled .. => 14 | .battery .. => 15
  | .wake .. => 16 | .sleepRequest .. => 17

/-- The kind's own flag bits, without OVERRUN (R186). A STREAM-BREAK that names no book has 0 in its entry bits (DESIGN CHOICE,
log 18). -/
def EntryBody.flags : EntryBody → Nat
  | .key _ _ _ _ woke => flagBit woke 1
  | .turn _ _ _ _ _ _ _ deferred => flagBit deferred 1
  | .updateEnd _ _ _ _ _ _ f _ => f.code
  | .streamBreak _ _ discarded entry _ =>
    flagBit discarded 1 + (match entry with | some e => e.val * 4 + 16 | Option.none => 0)
  | _ => 0

/-- The 8 data bytes of an entry (R186). The watch index of a BATTERY entry with cause WAKE is 0 (DESIGN CHOICE, log 18). -/
def EntryBody.data : EntryBody → List Byte
  | .none => leBytes 8 0
  | .reply code hostFlags r =>
    [code] ++ leBytes 1 r.outcomeCode ++ leBytes 1 r.detailCode ++ [hostFlags] ++ leBytes 4 r.result.toNat
  | .key k g a down _ =>
    leBytes 1 (keyCode k) ++ leBytes 1 g.code ++ leBytes 1 a.code ++ leBytes 1 0 ++ leBytes 2 down ++ leBytes 2 0
  | .turn d o out shown own opposite hostTag _ =>
    leBytes 1 d.code ++ leBytes 1 o.code ++ leBytes 1 out.code ++ leBytes 1 out.reasonCode ++ leBytes 1 shown.val
    ++ leBytes 1 (own + 16 * opposite) ++ leBytes 2 hostTag
  | .slotEmptied slot role cause tag =>
    leBytes 1 slot.val ++ leBytes 1 role.code ++ leBytes 1 cause.code ++ leBytes 1 0 ++ leBytes 4 tag
  | .updateEnd out o source requested effective band _ elapsed =>
    leBytes 1 out.code ++ leBytes 1 o.code ++ leBytes 1 source.val ++ leBytes 1 requested
    ++ leBytes 1 (orNone effective) ++ leBytes 1 (orNone band) ++ leBytes 2 elapsed
  | .waveform result cause modes bands failMode failBand setId =>
    leBytes 1 (result.code + 16 * cause) ++ leBytes 1 modes ++ leBytes 1 bands
    ++ leBytes 1 (failBand + 16 * failMode) ++ leBytes 4 setId
  | .railFault cause left count aborted madeUnknown =>
    leBytes 1 cause.code ++ leBytes 1 left.code ++ leBytes 1 count ++ leBytes 1 aborted
    ++ leBytes 1 (bitOf madeUnknown) ++ leBytes 3 0
  | .streamBreak cursor offset _ _ index => leBytes 3 cursor ++ leBytes 3 offset ++ leBytes 2 index
  | .chunkBad tag entry cause bad =>
    leBytes 4 tag ++ leBytes 1 entry.val ++ leBytes 1 cause.code ++ leBytes 2 bad
  | .bookComplete tag size => leBytes 4 tag ++ leBytes 4 size
  | .bookAborted tag good count => leBytes 4 tag ++ leBytes 2 good ++ leBytes 2 count
  | .watch index e branch a value =>
    leBytes 1 index.val ++ leBytes 1 e.code ++ leBytes 1 (bitOf branch) ++ leBytes 1 a.code ++ intBytes 4 value
  | .departure r p grace b => leBytes 1 r.code ++ leBytes 1 p.code ++ leBytes 1 grace ++ leBytes 1 b.code ++ leBytes 4 0
  | .departureCancelled r began => leBytes 1 r.code ++ leBytes 3 0 ++ leBytes 4 began.toNat
  | .battery before after cause =>
    leBytes 1 before.code ++ leBytes 1 after.code
    ++ (match cause with
        | .watch i => leBytes 1 0 ++ leBytes 1 i.val
        | .wake => leBytes 1 1 ++ leBytes 1 0)
    ++ leBytes 4 0
  | .wake deepAt => leBytes 4 0 ++ leBytes 4 deepAt.toNat
  | .sleepRequest g s => leBytes 1 g.code ++ leBytes 1 s.code ++ leBytes 6 0

/-- The 16 bytes of an entry place (R186). -/
def Entry.bytes (e : Entry) : List Byte :=
  leBytes 1 e.body.kind ++ leBytes 1 (flagBit e.overrun 0 + e.body.flags) ++ leBytes 2 e.tag ++ leBytes 4 e.time.toNat
  ++ e.body.data

end Sys2Proof.Machine
end

