-- ==== Sys2Proof/Machine/Operands.lean ====
section
/-! DEFINITION. The operands of requests: the fields of a 32-byte request record (R185), and how numeric arguments are
brought into their ranges (R24). -/

namespace Sys2Proof.Machine

/-- The u8 of a record at an offset. -/
def argU8 (r : List Byte) (o : Nat) : Nat := (r.getD o 0#8).toNat
/-- The u16 of a record at an offset. -/
def argU16 (r : List Byte) (o : Nat) : Nat := argU8 r o + 256 * argU8 r (o + 1)
/-- The u32 of a record at an offset. -/
def argU32 (r : List Byte) (o : Nat) : Nat := argU16 r o + 65536 * argU16 r (o + 2)

/-- The code at +0. -/
def reqCode (r : List Byte) : Nat := argU8 r 0
/-- The host tag at +2. -/
def reqTag (r : List Byte) : Nat := argU16 r 2

/-- The codes that name a request (R185). -/
def requestCodes : List Nat :=
  [0x01, 0x02, 0x10, 0x11, 0x12, 0x13, 0x20, 0x21, 0x28, 0x29, 0x2A, 0x30, 0x38, 0x39, 0x40, 0x41, 0x48, 0x49,
   0x50, 0x51, 0x58, 0x59, 0x5A]

def tableOfCode : Nat → Option TableId
  | 1 => some .levels | 2 => some .keymap | 3 => some .thermistor | 4 => some .watches | _ => none

/-- The command that dispatches a record (R21, R185). A LOAD-TABLE of a table that does not exist and a SET-POWER of a
value outside its list are dispatched by the first row of their family (log 12). -/
def dispatchOf (r : List Byte) : Instr :=
  match reqCode r with
  | 0x01 => .setNotice
  | 0x02 => match tableOfCode (argU8 r 4) with
    | some .keymap => .loadTableKeymap
    | some .thermistor => .loadTableThermistor
    | some .watches => .loadTableWatches
    | some .levels | none => .loadTableLevels
  | 0x10 => .mark
  | 0x11 => .turn
  | 0x12 => .jump
  | 0x13 => .cancelTurns
  | 0x20 => .loadWaveforms
  | 0x21 => .unloadWaveforms
  | 0x28 => .present
  | 0x29 => .cancel
  | 0x2A => .setPanel
  | 0x30 => .clearRailFault
  | 0x38 => .setInput
  | 0x39 => .wheelSnapshot
  | 0x40 => .setLight
  | 0x41 => .setLightTuning
  | 0x48 => .setSampler
  | 0x49 => .sampleNow
  | 0x50 => .openDownload
  | 0x51 => .closeDownload
  | 0x58 => match argU8 r 4 with
    | 1 => .setPowerDoze
    | 2 => .setPowerDeep
    | _ => .setPowerActive
  | 0x59 => .setTimers
  | 0x5A => .restart
  | _ => .requestBadCode

/-- A slot number (R24: one above 3 names no slot). -/
def slotOfArg (n : Nat) : Option (Fin 4) := if h : n < 4 then some ⟨n, h⟩ else none

def dirOfArg : Nat → Option Dir | 0 => some .forward | 1 => some .back | _ => none

/-- PRESENT's region (R74, R185): none is a kind outside the three. -/
inductive Region
  | dirty
  | full
  | rect (r : Rect)
deriving DecidableEq, Repr

def regionOfArg (r : List Byte) : Option Region :=
  match argU8 r 5 with
  | 0 => some .dirty
  | 1 => some .full
  | 2 => some (.rect ⟨argU8 r 6, argU8 r 7, argU8 r 8, argU8 r 9⟩)
  | _ => none

/-- A DONE reply that carries CLAMPED when a value was brought into range. -/
def doneClamped (clamped : Bool) (result : Word32 := 0#32) : Reply := .done { clamped := clamped } result

def doneNothing (result : Word32 := 0#32) : Reply := .done { nothingToDo := true } result

end Sys2Proof.Machine
end

