-- ==== Sys2Proof/Machine/Input.lean ====
section
/-! DEFINITION. The input unit's own values (chapter 7): key and phase filters, gesture machines, the decoder's arithmetic,
settings, key map and wheel record, and what DEEP and the wake do to them. The events that reach other blocks are in
Machine/Gesture.lean. -/

namespace Sys2Proof.Machine

def State.key (s : State) (k : Key) : KeyUnit := s.input.keys.get k

def State.setKey (s : State) (k : Key) (x : KeyUnit) : State :=
  s.setInput { s.input with keys := s.input.keys.set k x }

def InputUnit.phase (u : InputUnit) : Phase → PhaseUnit | .a => u.phaseA | .b => u.phaseB

def InputUnit.setPhase (u : InputUnit) (p : Phase) (x : PhaseUnit) : InputUnit :=
  match p with
  | .a => { u with phaseA := x }
  | .b => { u with phaseB := x }

/-! ## Key filters (R106, R113) -/

/-- R113: in DEEP the POWER key's filter alone runs. -/
def keyRuns (st : PowerState) (k : Key) : Bool := decide (st ≠ .deep) || decide (k = .power)

/-- R106: the raw level changes. A stopped filter ignores it; the pin's level is kept for the wake (R114). -/
def KeyUnit.rawChange (x : KeyUnit) (runs down : Bool) (expiry : Time) : KeyUnit :=
  if !runs then { x with raw := down }
  else if down = x.debounced then { x with raw := down, timer := none }
  else { x with raw := down, timer := some (x.timer.getD expiry) }

/-- R113: a gesture machine at the entry into DEEP. -/
def KeyUnit.release (x : KeyUnit) : KeyUnit :=
  { x with gesture := .released, holdTimer := none, repeatTimer := none, repeatIndex := 0 }

/-- R113: a stopped filter. -/
def KeyUnit.stop (x : KeyUnit) : KeyUnit := { x.release with timer := none }

/-- R114: a filter that resumes at the wake. -/
def KeyUnit.resume (x : KeyUnit) : KeyUnit := { x with debounced := x.raw, timer := none }

/-- R114: the POWER key's machine at the wake it caused. -/
def KeyUnit.wakeHeld (x : KeyUnit) (now : Time) : KeyUnit :=
  { x with gesture := .wakeHeld, holdTimer := none, repeatTimer := none, pressTime := now, woke := false }

/-! ## Phase filters and the decoder (R116 to R118) -/

/-- R116: the raw level of a phase changes; with F = 0 it is accepted at once. -/
def PhaseUnit.rawChange (x : PhaseUnit) (high : Bool) (f : Nat) (expiry : Time) : PhaseUnit :=
  if high = x.filtered then { x with raw := high, timer := none }
  else if f = 0 ∧ x.timer = none then { x with raw := high, filtered := high }
  else { x with raw := high, timer := some (x.timer.getD expiry) }

def PhaseUnit.accept (x : PhaseUnit) : PhaseUnit := { x with filtered := x.raw, timer := none }

/-- The place of a pair (A, B) in the forward cycle 00, 10, 11, 01 (R115). -/
def cyclePlace : Bool → Bool → Nat
  | false, false => 0
  | true, false => 1
  | true, true => 2
  | false, true => 3

/-- R116: the direction of a valid step between two pairs: +1 forward, −1 backward. -/
def stepDirection (a b a' b' : Bool) : Int := if cyclePlace a' b' = (cyclePlace a b + 1) % 4 then 1 else -1

/-- R117: the count a valid step makes, 0 for none, and the step sum after it. -/
def stepCount (mode : CountMode) (q : Int) (d : Int) (aChanged rest : Bool) : Int × Int :=
  match mode with
  | .edge => (d, q)
  | .half => (if aChanged then d else 0, q)
  | .detent =>
    let q1 := q + d
    if rest then (if q1 = 4 then 1 else if q1 = -4 then -1 else 0, 0) else (0, q1)

/-- What the decoder makes of the filtered pair (R116). -/
inductive DecoderOutcome | nothing | step (count : Int) | skip
deriving DecidableEq, Repr

/-- R116 to R118: the decoder compares the filtered pair with S, if neither filter has a change pending. -/
def InputUnit.decode (u : InputUnit) : DecoderOutcome × InputUnit :=
  let a := u.phaseA.filtered
  let b := u.phaseB.filtered
  if u.phaseA.timer.isSome ∨ u.phaseB.timer.isSome then (.nothing, u)
  else if a = u.settledA ∧ b = u.settledB then (.nothing, u)
  else if a ≠ u.settledA ∧ b ≠ u.settledB then
    (.skip, { u with settledA := a, settledB := b, stepSum := 0, skips := satInc 65535 u.skips })
  else
    let r := stepCount u.mode u.stepSum (stepDirection u.settledA u.settledB a b) (decide (a ≠ u.settledA))
      (!a && !b)
    (.step r.1, { u with settledA := a, settledB := b, stepSum := r.2 })

/-! ## Accumulator and wheel record (R119 to R121) -/

/-- R120, steps 1 and 2. -/
def accumulate (acc c : Int) : Int := if acc ≠ 0 ∧ decide (0 < acc) ≠ decide (0 < c) then c else acc + c

/-- R120: the accumulator after a count, and the direction of the wheel turn it makes. -/
def wheelTurn (w : Nat) (acc c : Int) : Option Dir × Int :=
  let a := accumulate acc c
  if w = 0 then (none, 0)
  else if w ≤ a.natAbs then (some (if 0 < a then .forward else .back), 0)
  else (none, a)

/-- R121: the wheel record is changed, with the values as they stand. -/
def changeWheel (s : State) : State :=
  let u := s.input
  changeRecord .wheel (s.setInput { u with wheelRecord := ⟨u.position, u.skips, u.accumulator, u.mode, s.time⟩ })

/-- WHEEL-SNAPSHOT (R121). -/
def wheelRequest (s : State) : State × Reply := (changeWheel s, .done {} s.input.position)

/-! ## Settings and key map (R108, R109, R123) -/

/-- SET-INPUT (R123). -/
def inputRequest (r : List Byte) (s : State) : State × Reply :=
  match CountMode.ofCode (argU8 r 10) with
  | none => (s, .refused .badArg)
  | some mode =>
    let d := clamp 1 64 (argU8 r 4)
    let f := clamp 0 15 (argU8 r 5)
    let h := clamp 200 5000 (argU16 r 6)
    let p := clampOrZero 100 2000 (argU16 r 8)
    let w := clamp 0 64 (argU8 r 11)
    (s.setInput { s.input with debounce := d, phaseFilter := f, hold := h, repeatPeriod := p, mode := mode,
                               wheelStep := w, stepSum := 0, accumulator := 0 },
     doneClamped (decide (d ≠ argU8 r 4 ∨ f ≠ argU8 r 5 ∨ h ≠ argU16 r 6 ∨ p ≠ argU16 r 8 ∨ w ≠ argU8 r 11)))

/-- The place of a key and gesture in the key map (12.1). -/
def mapPlace (k : Key) (g : Gesture) : Nat := 3 * keyCode k + g.code

/-- R110: the action the key map gives. -/
def InputUnit.action (u : InputUnit) (k : Key) (g : Gesture) : KeyAction := (u.keyMap[mapPlace k g]?).getD .none

/-- R109: the action a page's code gives at a place of the map; the POWER row takes NOTIFY for what it may not hold. -/
def mapAction (i : Nat) (a : KeyAction) : KeyAction :=
  if 6 ≤ i ∧ i ≤ 8 then
    match a with
    | .none | .notify | .sleepRequest => a
    | .turnFwd | .turnBack | .lightToggle | .lightUp | .lightDown => .notify
  else a

/-- The action at a place of a KEYMAP page, none where its code names no action. -/
def pageAction (page : List Byte) (i : Nat) : Option KeyAction := KeyAction.ofCode (argU8 page i)

/-- LOAD-TABLE KEYMAP with the page's contents (R109). -/
def loadKeymap (page : List Byte) (s : State) : State × Reply :=
  if (List.range 12).all fun i => (pageAction page i).isSome then
    let asked := fun i => (pageAction page i).getD .none
    let taken := fun i => mapAction i (asked i)
    (s.setInput { s.input with
      keyMap := #v[taken 0, taken 1, taken 2, taken 3, taken 4, taken 5, taken 6, taken 7, taken 8, taken 9, taken 10,
        taken 11] },
     doneClamped ((List.range 12).any fun i => decide (taken i ≠ asked i)))
  else (s, .refused .badTable)

/-! ## DEEP and the wake (R113, R114, R122) -/

/-- R113, R122: the entry into DEEP. -/
def stopInput (s : State) : State :=
  let u := s.input
  s.setInput { u with
    keys := ⟨u.keys.fwd.stop, u.keys.back.stop, u.keys.power.release, u.keys.light.stop⟩
    phaseA := { u.phaseA with timer := none }
    phaseB := { u.phaseB with timer := none } }

/-- R114, R122: the wake from DEEP. -/
def wakeInput (s : State) : State :=
  let u := s.input
  s.setInput { u with
    keys := ⟨u.keys.fwd.resume, u.keys.back.resume, u.keys.power.wakeHeld s.time, u.keys.light.resume⟩
    phaseA := .reset u.phaseA.raw
    phaseB := .reset u.phaseB.raw
    settledA := u.phaseA.raw
    settledB := u.phaseB.raw
    stepSum := 0
    accumulator := 0 }

end Sys2Proof.Machine
end

