-- ==== Sys2Proof/Machine/Crc.lean ====
section
/-! DEFINITION. The part's one cyclic check, CRC-32 (R60, R157): reflected polynomial 0xEDB88320, started from all ones,
the final value inverted. -/

namespace Sys2Proof.Machine

/-- One bit of the check. -/
def crcBit (c : Word32) : Word32 := if c.getLsbD 0 then (c >>> 1) ^^^ 0xEDB88320#32 else c >>> 1

/-- One byte of the check. -/
def crcByte (c : Word32) (b : Byte) : Word32 :=
  crcBit (crcBit (crcBit (crcBit (crcBit (crcBit (crcBit (crcBit (c ^^^ b.setWidth 32))))))))

def crcStart : Word32 := 0xFFFFFFFF#32

/-- A running check carried on over more bytes. -/
def crcFeed (c : Word32) (bytes : List Byte) : Word32 := bytes.foldl crcByte c

def crcEnd (c : Word32) : Word32 := ~~~c

/-- The CRC-32 of a run of bytes. -/
def crc32 (bytes : List Byte) : Word32 := crcEnd (crcFeed crcStart bytes)

end Sys2Proof.Machine
end

