-- ==== Sys2Proof/Machine/Records.lean ====
section
/-! DEFINITION. Where each part-written record lies and what bytes it holds (chapter 12, R184), computed from the state
of its block at the moment its write is granted (R16). -/

namespace Sys2Proof.Machine

/-- Guard record (R13). -/
def guardBytes (g : Guard) : List Byte :=
  leBytes 2 g.assembly ++ leBytes 2 g.mirror ++ leBytes 2 g.waveform ++ leBytes 2 g.control ++ leBytes 2 g.malformed
  ++ leBytes 2 0 ++ leBytes 4 g.lastDropped

/-- Power record (R172). Outside DEPARTING its reason byte shows the last departure's reason (DESIGN CHOICE, log 40). -/
def powerBytes (p : Power) : List Byte :=
  padTo 32 (leBytes 1 p.state.code ++ leBytes 1 p.state.phaseCode ++ leBytes 1 p.reason.code ++ leBytes 1 p.battery.code
    ++ leBytes 1 p.lastWake.code ++ leBytes 3 0 ++ leBytes 4 p.napAfter ++ leBytes 4 p.deepAfter ++ leBytes 1 p.grace
    ++ leBytes 3 0 ++ leBytes 4 p.recActivity.toNat ++ leBytes 4 p.recTime.toNat)

def slotBytes (p : PanelSettings) (x : Slot) : List Byte :=
  leBytes 1 x.role.code ++ leBytes 1 (bitOf x.ready) ++ leBytes 1 x.sourceCount ++ leBytes 1 0 ++ leBytes 4 x.tag
  ++ leBytes 2 (dirtyCount p x) ++ leBytes 2 0

/-- Slot table record (R39). -/
def slotTableBytes (p : PanelSettings) (u : SlotUnit) : List Byte :=
  padTo 64 (fourIds.flatMap (fun n => slotBytes p u.slots[n]) ++ leBytes 1 u.forward.length ++ leBytes 1 u.back.length
    ++ leBytes 2 u.serial)

/-- The waveform part of the display record; while no set is LOADED it shows the values of an unloaded set (R58; log 17). -/
def waveBytes (w : WaveUnit) : List Byte :=
  let id := match w.set with | some x => x.setId | none => 0
  let modes := match w.set with | some x => x.modeCount | none => 0
  let bands := match w.set with | some x => x.bandCount | none => 0
  let period := match w.set with | some x => x.period | none => 0
  let clean := w.set.map (·.cleanMode)
  let fallback := w.set.map (·.fallback)
  leBytes 1 w.setState.code ++ leBytes 1 (bitOf w.coldLock) ++ leBytes 1 (orNone w.band) ++ leBytes 1 w.lastResult.code
  ++ leBytes 1 w.failCause ++ leBytes 1 w.failTable ++ leBytes 1 modes ++ leBytes 1 bands ++ leBytes 4 id
  ++ leBytes 2 period ++ leBytes 1 (orNone clean) ++ leBytes 1 (orNone fallback)

/-- The queue part of the display record (R73). -/
def queueBytes (d : DriveEngine) : List Byte :=
  leBytes 2 d.settings.width ++ leBytes 2 d.settings.height ++ leBytes 1 d.settings.ghostLimit
  ++ leBytes 1 d.settings.pageMode ++ leBytes 2 d.settings.freshness ++ leBytes 2 d.settings.hold
  ++ leBytes 1 (bitOf d.mirrorKnown) ++ leBytes 1 d.queue.length ++ leBytes 1 0 ++ leBytes 1 (highestGhost d)
  ++ leBytes 2 d.late

/-- The rail part of the display record (R96). -/
def railBytes (r : Rail) : List Byte := leBytes 1 r.state.code ++ leBytes 1 r.cause.code ++ leBytes 1 r.count

/-- Display record (R58, R73, R96). -/
def displayBytes (s : State) : List Byte :=
  padTo 64 (padTo 40 (padTo 20 (waveBytes s.wave) ++ queueBytes s.drive) ++ railBytes s.rail)

/-- One lane's entry (R81); the frame count is shown once DRIVING is reached. A FREE lane shows none in its mode and band
fields (R184). The other fields of a FREE lane, the frame count before DRIVING and the tag places that a record does not use
are 0 (DESIGN CHOICE, log 18). -/
def laneBytes : Option Lane → List Byte
  | none => padTo 32 (leBytes 8 0 ++ leBytes 1 (orNone none) ++ leBytes 1 (orNone none) ++ leBytes 1 (orNone none))
  | some l =>
    let u := l.upd
    let tags := if u.origin = .request then u.tags else [u.serial]
    padTo 32 (leBytes 1 l.state.code ++ leBytes 1 u.origin.code ++ leBytes 1 u.source.val ++ leBytes 1 u.flags.code
      ++ leBytes 1 u.rect.tx0 ++ leBytes 1 u.rect.ty0 ++ leBytes 1 u.rect.tx1 ++ leBytes 1 u.rect.ty1
      ++ leBytes 1 u.requested ++ leBytes 1 (orNone u.effective) ++ leBytes 1 (orNone u.band)
      ++ leBytes 1 (if l.state = .driving then l.frames else 0)
      ++ leBytes 2 (tags.getD 0 0) ++ leBytes 2 (tags.getD 1 0) ++ leBytes 2 (tags.getD 2 0) ++ leBytes 2 (tags.getD 3 0)
      ++ leBytes 4 u.queued.toNat ++ leBytes 4 (match u.started with | some t => t.toNat | none => 0))

/-- Lane table record (R81). -/
def laneTableBytes (d : DriveEngine) : List Byte := laneIds.flatMap fun i => laneBytes d.lanes[i]

/-- Light record (R124). -/
def lightBytes (l : LightUnit) : List Byte :=
  padTo 48 (leBytes 1 l.level ++ leBytes 1 l.remembered ++ leBytes 1 l.warmth ++ leBytes 1 (bitOf l.follow)
    ++ leBytes 2 l.tuning.a0 ++ leBytes 2 l.tuning.a1 ++ leBytes 2 l.tuning.floor ++ leBytes 2 l.tuning.lowCap
    ++ leBytes 2 l.tuning.inrushCap ++ leBytes 2 l.tuning.step ++ leBytes 1 l.tuning.prescaler
    ++ leBytes 1 (bitOf l.ramping) ++ leBytes 2 l.factor ++ leBytes 2 l.cap ++ leBytes 1 l.capCause.code ++ leBytes 1 0
    ++ leBytes 2 l.total ++ leBytes 2 l.coolTarget ++ leBytes 2 l.warmTarget ++ leBytes 2 l.recCool
    ++ leBytes 2 l.recWarm ++ leBytes 2 0 ++ leBytes 4 l.recTime.toNat)

/-- One channel of the samples record (R139); an absent sample shows zeros (DESIGN CHOICE, log 18). -/
def channelBytes (c : ChannelUnit) (flags : Nat) : List Byte :=
  let code := match c.conv with | some x => x.1 | none => 0
  let at_ := match c.conv with | some x => x.2.toNat | none => 0
  let value := match c.value with | some x => x.1 | none => 0
  let valueAt := match c.value with | some x => x.2.toNat | none => 0
  leBytes 2 c.period ++ leBytes 2 c.count.toNat ++ leBytes 2 code ++ leBytes 1 flags ++ leBytes 1 0 ++ leBytes 4 at_
  ++ intBytes 4 value ++ leBytes 4 valueAt

def watchBytes (w : Watch) : List Byte :=
  leBytes 1 w.mode.code ++ leBytes 1 w.last.code ++ leBytes 2 w.acts.toNat ++ intBytes 4 w.latch

/-- Samples record (R139, R148). The flags byte of BATT and AMB is 0 (DESIGN CHOICE, log 18). -/
def samplesBytes (p : Sampler) (w : Vector Watch 8) : List Byte :=
  let flags := flagBit p.thermFault 0 + flagBit p.chans.therm.value.isSome 1
  padTo 128 (channelBytes p.chans.batt 0 ++ channelBytes p.chans.therm flags ++ channelBytes p.chans.amb 0
    ++ leBytes 2 p.scale ++ leBytes 2 0 ++ watchIds.flatMap fun i => watchBytes w[i])

/-- Wheel record (R121). -/
def wheelBytes (w : WheelRecord) : List Byte :=
  padTo 16 (leBytes 4 w.position.toNat ++ leBytes 2 w.skips ++ intBytes 1 w.accumulator ++ leBytes 1 w.mode.code
    ++ leBytes 4 w.time.toNat)

/-- Intake record (R169). -/
def intakeBytes (i : Intake) : List Byte :=
  padTo 32 (leBytes 4 i.cursor ++ leBytes 1 i.parser.code ++ leBytes 1 0 ++ leBytes 2 i.recFill
    ++ leBytes 2 i.headerErrors ++ leBytes 2 i.syncLosses ++ leBytes 2 i.breaks ++ leBytes 2 i.unknown
    ++ leBytes 2 i.outOfRange)

def downloadBytes (d : Download) : List Byte :=
  padTo 32 (leBytes 1 d.state.code ++ leBytes 3 0 ++ leBytes 4 d.tag ++ leBytes 4 d.chunkSize ++ leBytes 4 d.offset
    ++ leBytes 2 d.chunkCount ++ leBytes 2 d.good ++ leBytes 2 d.bad ++ leBytes 2 d.duplicates ++ leBytes 2 d.lastLength)

/-- Download table record (R154). -/
def downloadsBytes (i : Intake) : List Byte := fourIds.flatMap fun n => downloadBytes i.entries[n]

/-- A place of a chunk map. -/
def placeOf (d : Download) (i : Nat) : Place := sparseGet .missing d.map i

/-- A chunk-map byte: four places, two bits each (R184); a place past the chunk count shows 0 (DESIGN CHOICE, log 18). -/
def chunkMapByte (d : Download) (byteIndex : Nat) : List Byte :=
  leBytes 1 ((placeOf d (4 * byteIndex)).code + 4 * (placeOf d (4 * byteIndex + 1)).code
    + 16 * (placeOf d (4 * byteIndex + 2)).code + 64 * (placeOf d (4 * byteIndex + 3)).code)

/-- Identity record (R182, R184). -/
def identityBytes : List Byte :=
  leBytes 4 0x00005456 ++ leBytes 2 2240 ++ leBytes 2 1 ++ leBytes 2 32 ++ leBytes 1 4 ++ leBytes 1 16 ++ leBytes 1 32
  ++ leBytes 1 6 ++ leBytes 2 3072 ++ leBytes 1 4 ++ leBytes 1 0 ++ leBytes 2 2048 ++ leBytes 2 1536

/-- A ring's header: the written count, the capacity and the entries' offset (R16, R184). -/
def headerBytes (i : RingId) (r : Ring) : List Byte :=
  leBytes 2 r.written.toNat ++ leBytes 2 i.capacity ++ leBytes 2 i.offset ++ leBytes 2 0

/-- The notice word: 0 for NONE, otherwise the source id (R184). -/
def noticeBytes (v : Option RingId) : List Byte := leBytes 2 (match v with | some i => i.id | none => 0)

/-- Where a record lies. -/
def recordAddr : RecordId → Nat
  | .identity => Config.controlBase
  | .guard => Config.statusPage
  | .power => Config.statusPage + 0x010
  | .slotTable => Config.statusPage + 0x040
  | .display => Config.statusPage + 0x080
  | .laneTable => Config.statusPage + 0x100
  | .light => Config.statusPage + 0x300
  | .samples => Config.statusPage + 0x340
  | .wheel => Config.statusPage + 0x3C0
  | .intake => Config.statusPage + 0x3D0
  | .downloads => Config.statusPage + 0x400
  | .chunkMap entry byteIndex => Config.chunkMapPage entry.val + byteIndex
  | .entryPlace r place => Config.ringPage + r.offset + 16 * place
  | .ringHeader r => Config.ringPage + 8 * (r.id - 1)
  | .noticeWord => Config.noticeWordAddr

/-- A record's bytes as its block holds them. -/
def recordBytes (s : State) : RecordId → List Byte
  | .identity => identityBytes
  | .guard => guardBytes s.guard
  | .power => powerBytes s.power
  | .slotTable => slotTableBytes s.drive.settings s.slot
  | .display => displayBytes s
  | .laneTable => laneTableBytes s.drive
  | .light => lightBytes s.light
  | .samples => samplesBytes s.sampler s.watches
  | .wheel => wheelBytes s.input.wheelRecord
  | .intake => intakeBytes s.intake
  | .downloads => downloadsBytes s.intake
  | .chunkMap entry byteIndex => chunkMapByte s.intake.entries[entry] byteIndex
  | .entryPlace r place => ((s.ring r).places.getD place Entry.none).bytes
  | .ringHeader r => headerBytes r (s.ring r)
  | .noticeWord => noticeBytes s.report.value

/-- The cells a record's write burst writes (R184: every byte of the record). -/
def recordCells (s : State) (r : RecordId) : List Host.Cell := cellsAt (recordAddr r) (recordBytes s r)

end Sys2Proof.Machine
end

