-- ==== Sys2Proof/Machine/Intake.lean ====
section
/-! DEFINITION. The intake unit (chapter 10): the download table, cursor and breaks, the parser, the copy buffer and the
settlement of check groups. -/

namespace Sys2Proof.Machine

/-! ## Records -/

def CopyItem.room : CopyItem → Nat | .payload .. => 1 | .group _ => 4

/-- The check bytes of the chunk in parse that have entered the buffer and not yet formed a group (R163). -/
def Parser.partialCheck : Parser → Nat
  | .check c got => if c.kind = .ignore then 0 else got.length
  | .hunt _ | .header _ | .payload _ | .syncExpect _ => 0

/-- R164: the fill; the bytes of a running copy burst keep their room until it ends (R165). -/
def Intake.fill (k : Intake) : Nat :=
  k.buffer.foldl (fun n i => n + i.room) 0 + k.copying + k.parser.partialCheck

/-- R169: the intake record is changed; it then shows the fill (R164). -/
def changeIntake (s : State) : State :=
  changeRecord .intake (s.setIntake { s.intake with recFill := s.intake.fill })

def State.download (s : State) (e : Fin 4) : Download := s.intake.entries[e]

def State.setDownload (s : State) (e : Fin 4) (d : Download) : State :=
  s.setIntake { s.intake with entries := s.intake.entries.set e d }

/-- A field shown in the download table record changes (R154). -/
def changeDownload (e : Fin 4) (d : Download) (s : State) : State := changeRecord .downloads (s.setDownload e d)

/-- The parser state changes (R169). -/
def setParser (p : Parser) (s : State) : State := changeIntake (s.setIntake { s.intake with parser := p })

/-! ## The download table (R154 to R156) -/

/-- The length in bytes of an entry's range. -/
def Download.size (d : Download) : Nat := d.chunkCount * d.chunkSize

/-- An address lies in the range of an entry that is not FREE (R154). -/
def Download.protects (d : Download) (a : Nat) : Bool :=
  decide (d.state ≠ .free) && decide (Config.assemblyBase + d.offset ≤ a)
  && decide (a < Config.assemblyBase + d.offset + d.size)

/-- R9: some entry's range protects the address. -/
def Intake.protects (k : Intake) (a : Nat) : Bool := fourIds.any fun e => k.entries[e].protects a

/-- The entry, not FREE, that holds a tag. -/
def Intake.holder (k : Intake) (tag : Nat) : Option (Fin 4) :=
  fourIds.find? fun e => k.entries[e].state ≠ .free ∧ k.entries[e].tag = tag

/-- Two ranges share a byte; a FREE entry has none. -/
def Download.overlapsRange (d : Download) (offset size : Nat) : Bool :=
  decide (d.state ≠ .free) && decide (d.offset < offset + size) && decide (offset < d.offset + d.size)

/-- R155: the new entry. -/
def openedEntry (tag size count offset : Nat) : Download :=
  { state := .openState, tag := tag, chunkSize := size, chunkCount := count, offset := offset, map := [], good := 0,
    bad := 0, duplicates := 0, lastLength := 0, inFlight := [] }

/-- OPEN-DOWNLOAD (R155). The table record takes its queue place before the map bytes (DESIGN CHOICE, log 36). -/
def openRequest (r : List Byte) (s : State) : State × Reply :=
  let tag := argU32 r 4
  let size := argU32 r 8
  let count := argU16 r 12
  let offset := argU32 r 16
  if tag = 0 ∨ size ∉ [4096, 8192, 16384, 32768] ∨ count < 1 ∨ 4096 < count then (s, .refused .badArg)
  else if offset % size ≠ 0 ∨ Config.assemblySize < offset + count * size then (s, .refused .badArg)
  else if (s.intake.holder tag).isSome then (s, .refused .badArg)
  else
    match fourIds.find? fun e => (s.download e).state = .free with
    | none => (s, .refused .tableFull)
    | some e =>
      if fourIds.any fun k => (s.download k).overlapsRange offset (count * size) then (s, .refused .overlap)
      else
        let s1 := changeDownload e (openedEntry tag size count offset) s
        ((List.range ((count + 3) / 4)).foldl (fun s i => changeRecord (.chunkMap e i) s) s1,
         .accepted {} (BitVec.ofNat 32 e.val))

/-! ## Settlement (R166 to R168) -/

/-- A place of an entry's map changes: its map byte is changed when the place is (R154), after the table record (DESIGN
CHOICE, log 36). -/
def setPlace (e : Fin 4) (index : Nat) (p : Place) (d : Download) (s : State) : State :=
  let s1 := changeDownload e { d with map := sparseSet .missing d.map index p } s
  if sparseGet .missing d.map index = p then s1 else changeRecord (.chunkMap e (index / 4)) s1

/-- R166: a COPY group whose check matches; with the last chunk missing the book becomes COMPLETE (R167). -/
def settleGood (g : CheckGroup) (d : Download) (s : State) : State :=
  let last := decide (g.index + 1 = d.chunkCount)
  let d1 := { d with
    good := d.good + 1
    bad := if sparseGet .missing d.map g.index = .bad then d.bad - 1 else d.bad
    lastLength := if last then g.length else d.lastLength }
  if d1.good = d1.chunkCount then
    produce .intake (.bookComplete d.tag ((d.chunkCount - 1) * d.chunkSize + d1.lastLength)) g.entry.val
      (setPlace g.entry g.index .good { d1 with state := .complete } s)
  else setPlace g.entry g.index .good d1 s

/-- R166: a COPY or LENGTH group that does not make its place GOOD. -/
def settleBad (g : CheckGroup) (cause : BadCause) (d : Download) (s : State) : State :=
  let missing := decide (sparseGet .missing d.map g.index = .missing)
  let s1 := if missing then setPlace g.entry g.index .bad { d with bad := d.bad + 1 } s else s
  produce .intake (.chunkBad d.tag g.entry cause (s1.download g.entry).bad) g.index s1

/-- R166: one settlement, the group having left the buffer. Its index leaves the in-flight set (log 20). -/
def settleGroup (g : CheckGroup) (s : State) : State :=
  let d0 := s.download g.entry
  let d := if g.kind = .copy ∨ g.kind = .length then { d0 with inFlight := setErase d0.inFlight g.index } else d0
  let s1 := s.setDownload g.entry d
  if d.state ≠ .openState then s1
  else
    let ok := decide (g.crc = g.check)
    match g.kind with
    | .copy => if ok then settleGood g d s1 else settleBad g .crc d s1
    | .length => settleBad g (if ok then .length else .crc) d s1
    | .abort =>
      if ok then
        produce .intake (.bookAborted d.tag d.good d.chunkCount) g.entry.val
          (changeDownload g.entry { d with state := .aborted } s1)
      else produce .intake (.chunkBad d.tag g.entry .crc d.bad) g.index s1
    | .ignore => s1

/-- R166: the groups at the head are settled one after another; `items` is the buffer. -/
def settleItems : List CopyItem → State → State
  | .group g :: rest, s => settleItems rest (settleGroup g (s.setIntake { s.intake with buffer := rest }))
  | [], s => s
  | .payload .. :: _, s => s

/-- R166: every group at the head is settled; bytes of a running copy burst still stand before it (R165). -/
def settleHead (s : State) : State := if s.intake.copying = 0 then settleItems s.intake.buffer s else s

/-- CLOSE-DOWNLOAD's items (R156). -/
def CopyItem.ofEntry (e : Fin 4) : CopyItem → Bool
  | .payload k _ _ => decide (k = e)
  | .group g => decide (g.entry = e)

/-- R156: the chunk in parse goes on ignored if it belongs to the entry. -/
def Chunk.close (e : Fin 4) (c : Chunk) : Chunk :=
  if c.kind ≠ .ignore ∧ c.entry = e then { c with kind := .ignore } else c

def Parser.close (e : Fin 4) : Parser → Parser
  | .payload c => .payload (c.close e)
  | .check c got => .check (c.close e) got
  | .hunt w => .hunt w
  | .header g => .header g
  | .syncExpect g => .syncExpect g

/-- CLOSE-DOWNLOAD (R156). The entry's other fields stay as they are (log 31). -/
def closeRequest (r : List Byte) (s : State) : State × Reply :=
  let tag := argU32 r 4
  if tag = 0 then (s, .refused .badArg)
  else
    match s.intake.holder tag with
    | none => (s, .refused .notFound)
    | some e =>
      let d := s.download e
      let s1 := s.setIntake { s.intake with
        buffer := s.intake.buffer.filter fun i => !i.ofEntry e
        parser := s.intake.parser.close e }
      (settleHead (changeDownload e { d with state := .free, inFlight := [] } s1), .done {} (BitVec.ofNat 32 d.good))

/-! ## The parser (R160 to R163) -/

/-- The last `n` of a list. -/
def lastOf (n : Nat) (l : List Byte) : List Byte := l.drop (l.length - n)

/-- The counts of the intake record (R162, R169). -/
inductive IntakeCount | headerErrors | syncLosses | breaks | unknown | outOfRange
deriving DecidableEq, Repr

/-- One of the intake record's counts rises, saturating. -/
def countIntake (c : IntakeCount) (s : State) : State :=
  let k := s.intake
  changeIntake (s.setIntake (match c with
    | .headerErrors => { k with headerErrors := satInc 65535 k.headerErrors }
    | .syncLosses => { k with syncLosses := satInc 65535 k.syncLosses }
    | .breaks => { k with breaks := satInc 65535 k.breaks }
    | .unknown => { k with unknown := satInc 65535 k.unknown }
    | .outOfRange => { k with outOfRange := satInc 65535 k.outOfRange }))

/-- A chunk whose kind has been decided goes on to its payload, or to its check when it has none. No case of R162 leaves
HEADER for SYNC-EXPECT, which R160's table also names (DEDUCED, log 37). -/
def enterPayload (c : Chunk) (s : State) : State := setParser (if c.length = 0 then .check c [] else .payload c) s

/-- R162: a chunk that is skipped as a duplicate. -/
def countDuplicate (e : Fin 4) (s : State) : State :=
  let d := s.download e
  changeDownload e { d with duplicates := satInc 65535 d.duplicates } s

/-- R162: the length a chunk must have: the chunk size, or 1 to the chunk size for the last index. -/
def Download.lengthOk (d : Download) (index length : Nat) : Bool :=
  if index + 1 = d.chunkCount then decide (1 ≤ length ∧ length ≤ d.chunkSize) else decide (length = d.chunkSize)

/-- R162: the kind of a chunk for an OPEN entry. -/
def decideOpen (e : Fin 4) (index length : Nat) (isAbort : Bool) (c : Chunk) (s : State) : State :=
  let d := s.download e
  if isAbort then enterPayload { c with kind := .abort, entry := e } s
  else if d.chunkCount ≤ index then enterPayload c (countIntake .outOfRange s)
  else if sparseGet .missing d.map index = .good ∨ index ∈ d.inFlight then enterPayload c (countDuplicate e s)
  else
    let kind : ChunkKind := if d.lengthOk index length then .copy else .length
    enterPayload { c with kind := kind, entry := e } (s.setDownload e { d with inFlight := setInsert d.inFlight index })

/-- R162: the 12 header bytes are complete. -/
def decideHeader (h : List Byte) (s : State) : State :=
  let tag := argU32 h 0
  let index := argU16 h 4
  let length := argU16 h 6
  let flags := argU16 h 8
  let ignored : Chunk := ⟨.ignore, 0, index, length, 0, crcFeed crcStart h⟩
  if 32768 < length ∨ 1 < flags ∨ (flags = 1 ∧ length ≠ 0) then countIntake .headerErrors (setParser (.hunt []) s)
  else
    match s.intake.holder tag with
    | none => enterPayload ignored (countIntake .unknown s)
    | some e =>
      match (s.download e).state with
      | .free | .aborted => enterPayload ignored (countIntake .unknown s)
      | .complete => enterPayload ignored (countDuplicate e s)
      | .openState => decideOpen e index length (decide (flags = 1)) ignored s

/-- An item joins the tail of the copy buffer (R164). -/
def pushItem (i : CopyItem) (s : State) : State := s.setIntake { s.intake with buffer := s.intake.buffer ++ [i] }

/-- R163: a payload byte. -/
def payloadByte (c : Chunk) (b : Byte) (s : State) : State :=
  let d := s.download c.entry
  let a := Config.assemblyBase + d.offset + c.index * d.chunkSize + c.taken
  let c1 := { c with taken := c.taken + 1, crc := if c.kind = .ignore then c.crc else crcByte c.crc b }
  let s1 := if c.kind = .copy then pushItem (.payload c.entry a b) s else s
  if c1.taken = c1.length then setParser (.check c1 []) s1 else s1.setIntake { s1.intake with parser := .payload c1 }

/-- R163: a check byte; the fourth forms the check group, which is settled if it is at the head (R166). -/
def checkByte (c : Chunk) (got : List Byte) (b : Byte) (s : State) : State :=
  let got1 := got ++ [b]
  if got1.length < 4 then s.setIntake { s.intake with parser := .check c got1 }
  else
    let s1 := setParser (.syncExpect []) s
    if c.kind = .ignore then s1
    else settleHead (pushItem
      (.group ⟨c.entry, c.index, c.kind, c.length, crcEnd c.crc, BitVec.ofNat 32 (leValue got1)⟩) s1)

/-- R160, R161: one byte handed to the parser. -/
def parseByte (b : Byte) (s : State) : State :=
  match s.intake.parser with
  | .hunt w =>
    let w1 := w ++ [b]
    if lastOf 4 w1 = Config.sync then setParser (.header []) s
    else s.setIntake { s.intake with parser := .hunt (lastOf 3 w1) }
  | .header got =>
    let got1 := got ++ [b]
    if got1.length < 12 then s.setIntake { s.intake with parser := .header got1 } else decideHeader got1 s
  | .payload c => payloadByte c b s
  | .check c got => checkByte c got b s
  | .syncExpect got =>
    let got1 := got ++ [b]
    if got1 ≠ Config.sync.take got1.length then countIntake .syncLosses (setParser (.hunt (lastOf 3 got1)) s)
    else if got1.length = 4 then setParser (.header []) s
    else s.setIntake { s.intake with parser := .syncExpect got1 }

/-! ## Cursor, breaks and discards (R158, R159, R170) -/

/-- A chunk is in parse (R160). -/
def Parser.inParse : Parser → Bool
  | .header _ | .payload _ | .check _ _ => true
  | .hunt _ | .syncExpect _ => false

/-- What a STREAM-BREAK reports of the chunk in parse (R186): its entry when its kind was decided COPY, LENGTH or ABORT,
and its index, 0 while it has not been received whole. With no chunk in parse the index is 0 (DESIGN CHOICE, log 18). A
chunk that a close has turned IGNORE names no entry (DEDUCED, log 38). -/
def Parser.discarded : Parser → Option (Fin 4) × Nat
  | .payload c | .check c _ => (if c.kind = .ignore then none else some c.entry, c.index)
  | .header got => (none, if 6 ≤ got.length then argU16 got 4 else 0)
  | .hunt _ | .syncExpect _ => (none, 0)

/-- R159: the index of a discarded COPY or LENGTH chunk leaves its entry's in-flight set. -/
def dropInFlight (s : State) : State :=
  match s.intake.parser with
  | .payload c | .check c _ =>
    if c.kind = .copy ∨ c.kind = .length then
      let d := s.download c.entry
      s.setDownload c.entry { d with inFlight := setErase d.inFlight c.index }
    else s
  | .hunt _ | .header _ | .syncExpect _ => s

/-- R159: a break at a ring offset. -/
def breakStream (offset : Nat) (s : State) : State :=
  let p := s.intake.parser
  let before := s.intake.cursor
  let s1 := countIntake .breaks (dropInFlight s)
  let s2 := produce .intake (.streamBreak before offset p.inParse p.discarded.1 p.discarded.2) s1.intake.breaks s1
  changeIntake (s2.setIntake { s2.intake with parser := .hunt [], cursor := offset })

/-- R158: a WRITE's first intake-ring byte judges it. -/
def judgeIntake (offset : Nat) (s : State) : State := if offset = s.intake.cursor then s else breakStream offset s

/-- R158: one intake-ring byte is parsed and advances the cursor. -/
def feedIntake (offset : Nat) (b : Byte) (s : State) : State :=
  let s1 := parseByte b s
  changeIntake (s1.setIntake { s1.intake with cursor := (offset + 1) % Config.intakeSize })

/-- R170: a chunk in parse is discarded at the drain, and the parser enters HUNT, without entry or count. -/
def discardChunk (s : State) : State :=
  match s.intake.parser with
  | .hunt _ => s
  | .header _ | .payload _ | .check _ _ | .syncExpect _ => setParser (.hunt []) (dropInFlight s)

/-- R170: the entry into DEEP. The intake record is changed also when cursor and parser state stay as they were (DESIGN
CHOICE, log 39). -/
def deepIntake (s : State) : State :=
  let s1 := dropInFlight s
  changeIntake (s1.setIntake { s1.intake with parser := .hunt [], cursor := 0 })

/-! ## Copy bursts (R165) -/

/-- R165: the run of payload bytes at the head with consecutive addresses, at most `room` of them, and what follows. -/
def copyRun : List CopyItem → Nat → Option Nat → List Host.Cell × List CopyItem
  | .payload e a b :: rest, room + 1, next =>
    if next.getD a = a then
      let r := copyRun rest room (some (a + 1))
      ((a, b) :: r.1, r.2)
    else ([], .payload e a b :: rest)
  | items, _, _ => ([], items)

/-- R165: the class of the intake unit's claim, none while it has no claim. -/
def Intake.claim (k : Intake) : Option Nat :=
  match k.buffer with
  | .payload .. :: _ => if k.copying = 0 then some (if 2048 ≤ k.fill then 2 else 4) else none
  | [] | .group _ :: _ => none

/-- R165: a copy claim is granted: the bytes its burst writes, and the state with those bytes in transfer. -/
def grantCopy (s : State) : List Host.Cell × State :=
  let r := copyRun s.intake.buffer 1024 none
  (r.1, s.setIntake { s.intake with buffer := r.2, copying := r.1.length })

/-- R165: a copy burst ends: its room is freed and groups at the head are settled. -/
def endCopy (s : State) : State := settleHead (s.setIntake { s.intake with copying := 0 })

end Sys2Proof.Machine
end

