-- ==== Sys2Proof/Machine/Light.lean ====
section
/-! DEFINITION. The light unit (chapter 8): the four stages of composition, the recompute, the forced zero, the ramp,
the PWM frames, and what the light's requests and key actions do. -/

namespace Sys2Proof.Machine

/-- R126: the base stage. -/
def lightBase (l : LightUnit) : Nat := l.table.getD l.level 0

/-- R127: the ambient factor f, from the last AMB sample's code. -/
def ambientFactor (l : LightUnit) (amb : Option Nat) : Nat :=
  let t := l.tuning
  match l.follow, amb with
  | false, _ => 1000
  | true, none => 1000
  | true, some a =>
    if t.a1 ≤ t.a0 then 1000
    else if a ≤ t.a0 then t.floor
    else if t.a1 ≤ a then 1000
    else t.floor + (1000 - t.floor) * (a - t.a0) / (t.a1 - t.a0)

/-- R128: the battery cap. -/
def batteryCap (t : Tuning) : Battery → Nat
  | .normal => 1000
  | .low => t.lowCap
  | .critical => 0

/-- R128: the power cap. -/
def powerCap : PowerState → Nat
  | .init | .active | .doze | .departing .grace => 1000
  | .departing .drain | .nap | .deep => 0

/-- R128: the inrush cap, counted only while the rails are RISING. -/
def inrushCap (t : Tuning) (r : RailState) : Option Nat := if r = .rising then some t.inrushCap else none

/-- R128: C. -/
def lightCap (t : Tuning) (b : Battery) (p : PowerState) (r : RailState) : Nat :=
  min (min (batteryCap t b) (powerCap p)) ((inrushCap t r).getD 1000)

/-- R128: the first of POWER, CRITICAL, INRUSH and LOW whose term equals C and is below 1000. -/
def lightCapCause (t : Tuning) (b : Battery) (p : PowerState) (r : RailState) : CapCause :=
  let c := lightCap t b p r
  if c = 1000 then .none
  else if powerCap p = c then .power
  else if b = .critical ∧ c = 0 then .critical
  else if inrushCap t r = some c then .inrush
  else if b = .low ∧ t.lowCap = c then .low
  else .none

/-- R129: the cool target of a capped total. -/
def coolShare (total warmth : Nat) : Nat := total * (16 - warmth) / 16

/-- R130: the forced-off cases, a battery that is CRITICAL or a power cap of 0. -/
def forcedOff (b : Battery) (p : PowerState) : Bool := decide (b = .critical) || decide (powerCap p = 0)

/-- The light unit's values after the four stages (R125 to R129), the ramp not yet moved. -/
def composeLight (s : State) : LightUnit :=
  let l := s.light
  let f := ambientFactor l (s.sampler.chans.amb.value.map fun v => v.1.toNat)
  let c := lightCap l.tuning s.power.battery s.power.state s.rail.state
  let t2 := min (lightBase l * f / 1000) c
  let cool := coolShare t2 l.warmth
  { l with
    factor := f
    cap := c
    capCause := lightCapCause l.tuning s.power.battery s.power.state s.rail.state
    total := t2
    coolTarget := cool
    warmTarget := t2 - cool }

/-- R125, R130: the light unit after a recompute. -/
def recomputedLight (s : State) : LightUnit :=
  let l := composeLight s
  if forcedOff s.power.battery s.power.state then { l with coolDuty := 0, warmDuty := 0, ramping := false }
  else if l.coolTarget ≠ s.light.coolTarget ∨ l.warmTarget ≠ s.light.warmTarget then { l with ramping := true }
  else l

/-- R125: one recompute. A change of a target is activity; the light record changes when a value it holds does, at a
forced zero, and when the cause asks for it (`touched`: the request or key action changed a value). -/
def recompute (touched : Bool) (s : State) : State :=
  let l := recomputedLight s
  let moved := decide (l.coolTarget ≠ s.light.coolTarget ∨ l.warmTarget ≠ s.light.warmTarget)
  let s1 := s.setLight l
  let s2 := if moved then reportActivity s1 else s1
  if touched || forcedOff s.power.battery s.power.state || decide (l ≠ s.light) then changeLight s2 else s2

/-- R131: a duty moves toward its target by min(R, distance). -/
def rampDuty (step target duty : Nat) : Nat :=
  if duty < target then duty + min step (target - duty) else duty - min step (duty - target)

/-- R131: one tick; it changes nothing while the state is SETTLED, and nothing in NAP and DEEP (the ticks stop, R138). -/
def tickLight (s : State) : State :=
  let l := s.light
  if l.running && l.ramping then
    let cool := rampDuty l.tuning.step l.coolTarget l.coolDuty
    let warm := rampDuty l.tuning.step l.warmTarget l.warmDuty
    let settled := decide (cool = l.coolTarget ∧ warm = l.warmTarget)
    let s1 := s.setLight { l with coolDuty := cool, warmDuty := warm, ramping := !settled }
    if settled then changeLight s1 else s1
  else s

/-- R132, R133: a channel's frame starts. COOL's starts as the counter reaches 0, where a new prescaler takes effect;
WARM's as it reaches 500. The counter does not run in NAP and DEEP. -/
def startFrame (c : LightChannel) (s : State) : State :=
  let l := s.light
  if l.running then
    match c with
    | .cool => s.setLight { l with counter := 0, prescaler := l.tuning.prescaler, coolFrame := l.coolDuty }
    | .warm => s.setLight { l with counter := 500, warmFrame := l.warmDuty }
  else s

/-- R138: at the entry into NAP and DEEP the outputs are driven low, the counter and the ticks stop. -/
def stopLight (s : State) : State := s.setLight { s.light with running := false, coolFrame := 0, warmFrame := 0 }

/-- R138: leaving NAP or DEEP the counter starts at 0 and the ticks resume. A p that waits takes effect at the next COOL
frame start, not here (DESIGN CHOICE, log 45). -/
def resumeLight (s : State) : State := s.setLight { s.light with running := true, counter := 0 }

/-- R137: what a light action does to the level and the remembered level; other actions are not the light unit's. -/
def keyLevel (l : LightUnit) : KeyAction → LightUnit
  | .lightToggle =>
    if 0 < l.level then { l with remembered := l.level, level := 0 }
    else { l with level := if l.remembered = 0 then 32 else l.remembered }
  | .lightUp => { l with level := min (l.level + 1) 63 }
  | .lightDown => { l with level := l.level - 1 }
  | .none | .turnFwd | .turnBack | .notify | .sleepRequest => l

/-- R137: a light action, which ends with a recompute. -/
def lightAction (a : KeyAction) (s : State) : State :=
  let l := keyLevel s.light a
  recompute (decide (l ≠ s.light)) (s.setLight l)

/-- R134: the new level, warmth and follow flag, with the remembered level. -/
def setLightValues (l : LightUnit) (level warmth : Nat) (follow : Bool) : LightUnit :=
  { l with
    remembered := if level = 0 ∧ 0 < l.level then l.level else l.remembered
    level := level
    warmth := warmth
    follow := follow }

/-- SET-LIGHT (R134). -/
def lightRequest (r : List Byte) (s : State) : State × Reply :=
  let follow := argU8 r 6
  if 1 < follow then (s, .refused .badArg)
  else
    let level := clamp 0 63 (argU8 r 4)
    let warmth := clamp 0 16 (argU8 r 5)
    let s' := recompute true (s.setLight (setLightValues s.light level warmth (follow = 1)))
    (s', doneClamped (decide (level ≠ argU8 r 4 ∨ warmth ≠ argU8 r 5))
      (BitVec.ofNat 32 (s'.light.coolTarget + 65536 * s'.light.warmTarget)))

/-- R124, R135: the seven tuning values of a record, each in its range. -/
def tuningOf (r : List Byte) : Tuning :=
  { a0 := clamp 0 1023 (argU16 r 4), a1 := clamp 0 1023 (argU16 r 6), floor := clamp 0 1000 (argU16 r 8),
    lowCap := clamp 0 1000 (argU16 r 10), inrushCap := clamp 0 1000 (argU16 r 12), step := clamp 1 1000 (argU16 r 14),
    prescaler := clamp 1 120 (argU8 r 16) }

/-- SET-LIGHT-TUNING (R135); the new p takes effect as the counter next reaches 0 (R132). -/
def lightTuningRequest (r : List Byte) (s : State) : State × Reply :=
  let t := tuningOf r
  let asked : Tuning :=
    ⟨argU16 r 4, argU16 r 6, argU16 r 8, argU16 r 10, argU16 r 12, argU16 r 14, argU8 r 16⟩
  (recompute true (s.setLight { s.light with tuning := t }), doneClamped (decide (t ≠ asked)))

/-- The u16 entries of a page, `n` of them from offset `o`. -/
def u16Entries (page : List Byte) (o : Nat) : Nat → List Nat
  | 0 => []
  | n + 1 => argU16 page o :: u16Entries page (o + 2) n

/-- LOAD-TABLE LEVELS with the page's contents (R136). -/
def loadLevels (page : List Byte) (s : State) : State × Reply :=
  let asked := u16Entries page 0 64
  let t := asked.map (min 1000)
  (recompute true (s.setLight { s.light with table := t }), doneClamped (decide (t ≠ asked)))

end Sys2Proof.Machine
end

