-- ==== Sys2Proof/Machine/Rails.lean ====
section
/-! DEFINITION. The rail sequencer (chapter 6) but for FAULT's entry and exit, which end lanes (Machine/RailFault.lean).
Each change of rail state changes the display record and is handed to the light unit (R96); the update queue's start
rule and the power controller's tests take it at the end of the step (log 8). -/

namespace Sys2Proof.Machine

/-- R96: the rail state changes, with the timer that runs in the new state. -/
def railTo (st : RailState) (timer : Option Time) (s : State) : State :=
  recompute false (changeRecord .display (s.setRail { s.rail with state := st, timer := timer }))

/-- R99: entry into ON starts the frame clock, which runs in ON only; its boundaries are the sender's (log 24). -/
def enterOn (s : State) : State := railTo .on none s

/-- R98: entry into RISING. -/
def enterRising (s : State) : State :=
  let s1 := railTo .rising (some (s.after Config.riseTime)) s
  if s1.rail.good then enterOn s1 else s1

/-- R101: the state reaches OFF, and goes on to RISING when a lane requests the rails. -/
def enterOff (s : State) : State :=
  let s1 := railTo .off none s
  if 0 < activeCount s1 then enterRising s1 else s1

/-- R101: entry into FALLING. -/
def enterFalling (s : State) : State :=
  let s1 := railTo .falling (some (s.after Config.fallTime)) s
  if s1.rail.good then s1 else enterOff s1

/-- R100: entry into HOLD. -/
def enterHold (s : State) : State :=
  let ms := s.drive.settings.hold
  if s.power.release.isSome ∨ ms = 0 then enterFalling (railTo .hold none s)
  else railTo .hold (some (s.after ms)) s

/-- R97: a lane's request, by the state it finds. -/
def requestRails (s : State) : State :=
  match s.rail.state with
  | .off => enterRising s
  | .hold => enterOn s
  | .rising | .on | .falling | .fault => s

/-- R97: a lane's request is released; the last one released in ON moves the state to HOLD. -/
def releaseRails (s : State) : State :=
  if s.rail.state = .on ∧ activeCount s = 0 then enterHold s else s

/-- R100: a release request, of either purpose, taken in HOLD. -/
def releaseFromHold (s : State) : State := if s.rail.state = .hold then enterFalling s else s

/-- The power controller makes a release request of purpose NAP (R175): HOLD falls at once, FAULT is not changed (R103). -/
def requestReleaseNap (s : State) : State :=
  releaseFromHold (s.setPower { s.power with release := some .nap })

/-- R96, R102: the fault count rises by one, saturating at 255, and the record changes, also when the count
stands at 255 (DESIGN CHOICE, log 43). -/
def countFault (s : State) : State :=
  changeRecord .display (s.setRail { s.rail with count := satInc 255 s.rail.count })

/-- R103: in FAULT, a fall counts and stops the check; a rise starts it; its expiry counts if rail good is high. -/
def faultFall (s : State) : State := countFault (s.setRail { s.rail with timer := none })
def faultRise (s : State) : State := s.setRail { s.rail with timer := some (s.after Config.faultCheckTime) }
def faultCheck (s : State) : State :=
  let s1 := s.setRail { s.rail with timer := none }
  if s1.rail.good then countFault s1 else s1

/-- R101: the fall timer expires. With rail good still high the fall is counted as FALL-SLOW and reported.
The display record, the place of the RAIL-FAULT entry and the light record take their places in the record-write queue in
that order (DESIGN CHOICE, log 42). -/
def fallExpired (s : State) : State :=
  if s.rail.good then
    let s1 := countFault (s.setRail { s.rail with cause := .fallSlow })
    enterOff (produce .display (.railFault .fallSlow .falling s1.rail.count 0 false) 0 s1)
  else enterOff s

end Sys2Proof.Machine
end

