-- ==== Sys2Proof/Machine/Waveform.lean ====
section
/-! DEFINITION. The waveform unit (chapter 4): the set's layout (R187), the loading checks (R62), the requests, band
selection (R68, R69), mode resolution (R71) and the cold lock (R70). -/

namespace Sys2Proof.Machine

/-! ## The set in memory (R187) -/

def waveU8 (m : Memory) (o : Nat) : Nat := readValue m (Config.waveBase + o) 1
def waveU16 (m : Memory) (o : Nat) : Nat := readValue m (Config.waveBase + o) 2
def waveU32 (m : Memory) (o : Nat) : Nat := readValue m (Config.waveBase + o) 4
def waveS16 (m : Memory) (o : Nat) : Int := signedOf 16 (waveU16 m o)

/-- Descriptor of mode `k`. -/
def modeAt (m : Memory) (k : Nat) : Mode :=
  { isPartial := waveU8 m (40 + 4 * k) % 2 = 1
    weight := waveU8 m (41 + 4 * k) % 16
    coldBarred := waveU8 m (42 + 4 * k) % 2 = 1 }

/-- The offset of table (mode, band). -/
def tableOffset (m : Memory) (mode band : Nat) : Nat := waveU32 m (72 + 4 * (12 * mode + band))

/-- The mode and band of the k-th table in the load's order: in order of mode, and within a mode of band (R62). -/
def tablePair (bands k : Nat) : Nat × Nat := (k / bands, k % bands)

/-- The drive entry of a table for frame f, from-level c and to-level v: 0 NONE, 1 LIGHTEN, 2 DARKEN, 3 NONE. -/
def driveEntry (m : Memory) (offset f c v : Nat) : Nat :=
  let k := 16 * c + v
  waveU8 m (offset + 8 + 64 * f + k / 4) / 4 ^ (k % 4) % 4

/-- What the unit keeps of a set that ends LOADED (R58, R62). -/
def parseSet (m : Memory) : WaveSet :=
  let modes := waveU8 m 8
  let bands := waveU8 m 9
  { setId := waveU32 m 4, modeCount := modes, bandCount := bands,
    edges := (List.range bands).map fun b => waveS16 m (16 + 2 * b),
    upper := waveS16 m 14, period := waveU16 m 10, cleanMode := waveU8 m 12, fallback := waveU8 m 13,
    modes := (List.range modes).map (modeAt m),
    tables := (List.range (modes * bands)).map fun k =>
      let o := tableOffset m (tablePair bands k).1 (tablePair bands k).2
      (o, waveU8 m o) }

/-! ## Checks (R62): the number of the first that fails -/

/-- Checks 1 and 2, and of check 3 what needs the header only. -/
def checkHeader (m : Memory) : Option Nat :=
  let modes := waveU8 m 8
  let bands := waveU8 m 9
  if waveU32 m 0 ≠ Config.waveMagic then some 1
  else if modes < 1 ∨ 8 < modes ∨ bands < 1 ∨ 12 < bands then some 2
  else if modes ≤ waveU8 m 12 ∨ modes ≤ waveU8 m 13 then some 3
  else none

def ascending : List Int → Bool
  | a :: b :: rest => decide (a < b) && ascending (b :: rest)
  | _ => true

/-- The rest of check 3, and checks 4 and 5. -/
def checkDescriptors (m : Memory) : Option Nat :=
  let bands := waveU8 m 9
  let edges := (List.range bands).map fun b => waveS16 m (16 + 2 * b)
  if (modeAt m (waveU8 m 12)).isPartial then some 3
  else if waveU16 m 10 < 50 ∨ 500 < waveU16 m 10 then some 4
  else if !ascending edges ∨ waveS16 m 14 ≤ edges.getLastD 0 then some 5
  else none

/-- Checks 6 and 7 of a table whose header has been read. -/
def checkTableHeader (m : Memory) (mode offset : Nat) : Option Nat :=
  let n := waveU8 m offset
  if Config.waveSize < offset + 8 + 64 * n then some 6
  else if mode = waveU8 m 12 ∧ n = 0 then some 7
  else none

/-- R62, DIAGONAL: every frame holds NONE where the from-level equals the to-level. -/
def diagonalOk (m : Memory) (offset n : Nat) : Bool :=
  (List.range n).all fun f => (List.range 16).all fun c =>
    driveEntry m offset f c c = 0 || driveEntry m offset f c c = 3

/-- Checks 8 and 9 of a table whose entries have been read whole. -/
def checkTableEntries (m : Memory) (mode offset : Nat) : Option Nat :=
  let n := waveU8 m offset
  if (crc32 (readBytes m (Config.waveBase + offset + 8) (64 * n))).toNat ≠ waveU32 m (offset + 4) then some 8
  else if (modeAt m mode).isPartial && !diagonalOk m offset n then some 9
  else none

/-! ## The load (R61, R62) -/

/-- The unit's part of the display record changes with it (R58). -/
def setWaveShown (s : State) (w : WaveUnit) : State := changeRecord .display (s.setWave w)

/-- A load ends FAILED, with its check's number and, for a table check, the table (R62). The display
record takes its place in the record-write queue before the WAVEFORM entry (DESIGN CHOICE, log 42). -/
def failLoad (cause mode band : Nat) (s : State) : State :=
  let m := s.mem
  let s1 := setWaveShown s
    { s.wave with setState := .failed, set := none, load := none, lastResult := .failed, failCause := cause,
                  failTable := mode * 16 + band }
  produce .display
    (.waveform .failed cause (waveU8 m 8) (waveU8 m 9) mode band (if cause = 1 then 0 else waveU32 m 4))
    s.wave.loadTag s1

/-- The last table has passed: the load ends LOADED (R62). The display record takes its place in the record-write queue
before the WAVEFORM entry (DESIGN CHOICE, log 42). -/
def passLoad (s : State) : State :=
  let x := parseSet s.mem
  let s1 := setWaveShown s
    { s.wave with setState := .loaded, set := some x, load := none, lastResult := .loaded, failCause := 0,
                  failTable := 0 }
  produce .display (.waveform .loaded 0 x.modeCount x.bandCount 0 0 x.setId) s.wave.loadTag s1

def setStage (st : LoadStage) (s : State) : State := s.setWave { s.wave with load := some st }

/-- The load goes on to its k-th table, or ends LOADED after the last. A table whose header does not lie inside the
area fails BOUNDS without being read. -/
def loadTable (k : Nat) (s : State) : State :=
  let bands := waveU8 s.mem 9
  let p := tablePair bands k
  if waveU8 s.mem 8 * bands ≤ k then passLoad s
  else if Config.waveSize < tableOffset s.mem p.1 p.2 + 8 then failLoad 6 p.1 p.2 s
  else setStage (.tableHeader k) s

/-- A table whose entries have been read whole. -/
def endTable (k : Nat) (s : State) : State :=
  let p := tablePair (waveU8 s.mem 9) k
  match checkTableEntries s.mem p.1 (tableOffset s.mem p.1 p.2) with
  | some c => failLoad c p.1 p.2 s
  | none => loadTable (k + 1) s

/-- The bytes a burst of entries reads at most (R14). -/
def loadBurst : Nat := 2048

/-- A burst of the load has ended: the checks that its bytes complete are made (R62; log 11, log 26). -/
def loadBurstEnd (s : State) : State :=
  let m := s.mem
  match s.wave.load with
  | none => s
  | some .header =>
    match checkHeader m with
    | some c => failLoad c 0 0 s
    | none => setStage .descriptors s
  | some .descriptors =>
    match checkDescriptors m with
    | some c => failLoad c 0 0 s
    | none => setStage .offsets s
  | some .offsets => loadTable 0 s
  | some (.tableHeader k) =>
    let p := tablePair (waveU8 m 9) k
    let o := tableOffset m p.1 p.2
    match checkTableHeader m p.1 o with
    | some c => failLoad c p.1 p.2 s
    | none => if waveU8 m o = 0 then endTable k s else setStage (.entries k 0) s
  | some (.entries k read) =>
    let p := tablePair (waveU8 m 9) k
    let total := 64 * waveU8 m (tableOffset m p.1 p.2)
    if total ≤ read + loadBurst then endTable k s else setStage (.entries k (read + loadBurst)) s

/-! ## Requests -/

/-- R61: the update queue holds a record, waiting or in a lane. -/
def queueBusy (s : State) : Bool := !s.drive.queue.isEmpty || decide (0 < activeCount s)

/-- LOAD-WAVEFORMS (R61). -/
def loadWaveformsRequest (r : List Byte) (s : State) : State × Reply :=
  if s.wave.setState = .loading ∨ queueBusy s then (s, .refused .busy)
  else
    (setWaveShown s { s.wave with setState := .loading, set := none, load := some .header, loadTag := reqTag r,
                                  band := none },
     .accepted {} 0#32)

/-- UNLOAD-WAVEFORMS (R64). The display record is changed also when the set was UNLOADED already (DESIGN CHOICE, log 43),
and it takes its place in the record-write queue before the WAVEFORM entry (DESIGN CHOICE, log 42). -/
def unloadWaveformsRequest (r : List Byte) (s : State) : State × Reply :=
  if s.wave.setState = .loading ∨ queueBusy s then (s, .refused .busy)
  else
    let was := s.wave.setState
    let s1 := setWaveShown s
      { s.wave with setState := .unloaded, set := none, load := none, lastResult := .unloaded, failCause := 0,
                    failTable := 0, band := none }
    if was = .unloaded then (s1, doneNothing)
    else (produce .display (.waveform .unloaded 0 0 0 0 0 0) (reqTag r) s1, .done {} 0#32)

/-! ## Band selection (R68, R69) -/

def WaveSet.lower (x : WaveSet) (b : Nat) : Int := x.edges.getD b 0

/-- The lower edge of the next band; the upper limit for the last (R59). -/
def WaveSet.upperOf (x : WaveSet) (b : Nat) : Int := if b + 1 < x.bandCount then x.lower (b + 1) else x.upper

/-- R68: the candidate band. -/
def WaveSet.candidate (x : WaveSet) (t : Int) : Nat :=
  if t < x.lower 0 then 0
  else if x.upper ≤ t then x.bandCount - 1
  else ((List.range x.bandCount).find? fun b => decide (x.lower b ≤ t) && decide (t < x.upperOf b)).getD 0

/-- R69: the chosen band. -/
def WaveSet.chooseBand (x : WaveSet) (current : Option Nat) (t : Int) : Nat :=
  let c := x.candidate t
  match current with
  | none => c
  | some k =>
    if c = k then k
    else if x.lower k - Config.bandMargin ≤ t ∧ t < x.upperOf k + Config.bandMargin then k
    else c

/-- R68: the clamp flags describe T against the whole range. -/
def WaveSet.clampFlags (x : WaveSet) (t : Int) (f : UpdateFlags) : UpdateFlags :=
  { f with coldClamp := f.coldClamp || decide (t < x.lower 0), hotClamp := f.hotClamp || decide (x.upper ≤ t) }

/-! ## Mode resolution (R71) -/

def WaveSet.mode (x : WaveSet) (k : Nat) : Mode := x.modes.getD k ⟨false, 0, false⟩
def WaveSet.tableAt (x : WaveSet) (mode band : Nat) : Nat × Nat := x.tables.getD (mode * x.bandCount + band) (0, 0)
def WaveSet.frames (x : WaveSet) (mode band : Nat) : Nat := (x.tableAt mode band).2
def WaveSet.isPartial (x : WaveSet) (mode : Nat) : Bool := (x.mode mode).isPartial

/-- R71: a mode is usable in a band; the clean mode's COLD-BARRED flag is disregarded. -/
def WaveSet.usable (x : WaveSet) (coldLock : Bool) (band mode : Nat) : Bool :=
  decide (0 < x.frames mode band) && (decide (mode = x.cleanMode) || !(coldLock && (x.mode mode).coldBarred))

/-- R71: the effective mode. -/
def WaveSet.resolve (x : WaveSet) (coldLock mirrorKnown : Bool) (band requested : Nat) : Nat :=
  let e :=
    if x.usable coldLock band requested then requested
    else if x.usable coldLock band x.fallback then x.fallback
    else x.cleanMode
  if !mirrorKnown && x.isPartial e then x.cleanMode else e

/-- R65: the mode count offered to the update queue, 0 while no set is LOADED. -/
def WaveUnit.modeCount (w : WaveUnit) : Nat := match w.set with | some x => x.modeCount | none => 0

/-- R70: a watch action sets or clears the cold lock; a change is shown. -/
def setColdLock (on : Bool) (s : State) : State :=
  if s.wave.coldLock = on then s else setWaveShown s { s.wave with coldLock := on }

end Sys2Proof.Machine
end

