-- ==== Sys2Proof/Machine/Drive.lean ====
section
/-! DEFINITION. The update queue and the drive engine (chapter 5): records and how they end, admission, the start rule,
lanes, latch, frame drive and completion, and panel settings. The rails are asked for as R97 states. -/

namespace Sys2Proof.Machine

/-! ## Records that end (R72, R87) -/

/-- R72: the record as its end leaves it, with its done time. -/
def UpdateRecord.ended (u : UpdateRecord) (now : Time) : UpdateRecord := { u with done := some now }

/-- R87: the elapsed time in ms of a record that has ended, saturating: from the press for turns and jumps, from admission
for requests, to the done time. -/
def elapsedOf (u : UpdateRecord) : Nat :=
  let since := if u.origin = .request then u.queued else u.press
  min (timeSince (u.done.getD since) since) 65535

def updateEndBody (u : UpdateRecord) (out : UpdateOutcome) : EntryBody :=
  .updateEnd out u.origin u.source u.requested u.effective u.band u.flags (elapsedOf u)

/-- The tags an end is reported under: the tag list, or the turn serial (R87). -/
def UpdateRecord.endTags (u : UpdateRecord) : List Nat := if u.origin = .request then u.tags else [u.serial]

/-- R46: a slot's source count changes. -/
def changeSource (n : Fin 4) (up : Bool) (s : State) : State :=
  let x := s.slotAt n
  changeRecord .slotTable
    (s.setSlotAt n { x with sourceCount := if up then x.sourceCount + 1 else x.sourceCount - 1 })

/-- R72, R87: a record ends: its done time is set, its source count falls and its UPDATE-END entries are produced in the
order of its tags. -/
def endRecord (out : UpdateOutcome) (s : State) (u : UpdateRecord) : State :=
  u.endTags.foldl (fun s' tag => produce .display (updateEndBody (u.ended s.time) out) tag s')
    (changeSource u.source false s)

/-- The waiting records change; the display record shows their number (R73). -/
def setQueue (q : List UpdateRecord) (s : State) : State :=
  let s' := s.setDrive { s.drive with queue := q }
  if q.length = s.drive.queue.length then s' else changeRecord .display s'

/-- R52, R77: every waiting record whose source is the named slot ends SUPERSEDED, the oldest first (DESIGN CHOICE,
log 9). -/
def supersede (n : Fin 4) (s : State) : State :=
  (s.drive.queue.filter fun u => u.source = n).foldl (endRecord .superseded)
    (setQueue (s.drive.queue.filter fun u => u.source ≠ n) s)

/-- R91, R92: every waiting record ends DROPPED, the oldest first (DESIGN CHOICE, log 9). -/
def dropWaiting (s : State) : State := s.drive.queue.foldl (endRecord .dropped) (setQueue [] s)

/-- R73, R76, R77: a record is admitted as the youngest. -/
def admitRecord (u : UpdateRecord) (s : State) : State :=
  changeSource u.source true (setQueue (s.drive.queue ++ [u]) s)

/-- R77: the requested mode of a turn or jump record. -/
def pageModeOf (s : State) : Nat :=
  match s.wave.set with
  | some x => if s.drive.settings.pageMode < x.modeCount then s.drive.settings.pageMode else x.cleanMode
  | none => s.drive.settings.pageMode

/-- R53, R77: a turn or jump record is admitted; while a RESTART waits it at once ends DROPPED (R92). -/
def admitTurn (o : UpdateOrigin) (source : Fin 4) (serial : Nat) (press : Time) (s : State) : State :=
  let u : UpdateRecord :=
    { tags := [], serial := serial, origin := o, source := source, rect := s.drive.settings.whole,
      requested := pageModeOf s, effective := none, band := none, flags := {}, queued := s.time, press := press,
      started := none, done := none }
  if s.power.restarting then endRecord .dropped (changeSource source true s) u else admitRecord u s

/-! ## Temperature, band, mode and ghost check of a lane (R66 to R71, R82) -/

/-- R66: the last valid temperature when it is fresh. -/
def freshTemp (s : State) : Option Int :=
  match s.sampler.chans.therm.value with
  | none => none
  | some v =>
    if s.sampler.beforeDeep ∨ s.drive.settings.freshness * 1000 < timeSince s.time v.2 then none else some v.1

/-- R66: a THERM demand of the drive engine is outstanding. -/
def driveDemandOut (p : Sampler) : Bool :=
  p.demands.contains .drive || match p.converter with
    | .converting .therm .driveDemand _ _ => true
    | _ => false

/-- What an unheld set offers; no lane is active without a LOADED set (R65). -/
def WaveSet.empty : WaveSet := ⟨0, 0, 0, [], 0, 0, 0, 0, [], []⟩

def State.waveSet (s : State) : WaveSet := s.wave.set.getD WaveSet.empty

/-- R82: some tile's ghost count plus the weight exceeds the limit. -/
def ghostExceeds (d : DriveEngine) (r : Rect) (weight : Nat) : Bool :=
  r.places.any fun p => decide (d.settings.ghostLimit < sparseGet 0 d.ghost p + weight)

/-- R71, R82: the lane's effective mode in its band, and the flags it takes. -/
def resolveLane (s : State) (u : UpdateRecord) (band : Nat) (f : UpdateFlags) : UpdateRecord :=
  let x := s.waveSet
  let e := x.resolve s.wave.coldLock s.drive.mirrorKnown band u.requested
  let f1 := { f with substituted := f.substituted || decide (e ≠ u.requested) }
  if x.isPartial e && ghostExceeds s.drive u.rect (x.mode e).weight then
    { u with band := some band, effective := some x.cleanMode, flags := { f1 with ghostPromoted := true } }
  else { u with band := some band, effective := some e, flags := f1 }

/-- The lane has its band: it becomes the current band, and the lane enters LATCH (R69, R80). -/
def enterLatch (i : Fin 16) (l : Lane) (band : Nat) (f : UpdateFlags) (s : State) : State :=
  let s1 := if s.wave.band = some band then s else setWaveShown s { s.wave with band := some band }
  let u := resolveLane s1 l.upd band f
  changeRecord .laneTable
    (s1.setLane i (some { l with
      upd := u, state := .latch, tile := 0, step := .needRead, frames := s1.waveSet.frames (u.effective.getD 0) band }))

/-- A lane goes on with temperature T (R68, R69), taking THERM-FAULT where R67 says so. -/
def laneWithTemp (i : Fin 16) (l : Lane) (t : Int) (fault : Bool) (s : State) : State :=
  let x := s.waveSet
  let f := x.clampFlags t { l.upd.flags with thermFault := l.upd.flags.thermFault || fault }
  enterLatch i l (x.chooseBand s.wave.band t) f s

/-- R67: the drive engine's demand has completed; each lane in WAIT-TEMP leaves it, lowest number first (log 9). -/
def endWaitTemp (s : State) : State :=
  laneIds.foldl (fun s i =>
    match s.lane i with
    | none => s
    | some l =>
      if l.state = .waitTemp then
        match s.sampler.chans.therm.value with
        | some v => laneWithTemp i l v.1 s.sampler.thermFault s
        | none => enterLatch i l 0 { l.upd.flags with thermFault := true } s
      else s) s

/-! ## The start rule (R79, R80) -/

/-- R79: promotion while the mirror is UNKNOWN. -/
def promote (s : State) (u : UpdateRecord) : UpdateRecord :=
  if !s.drive.mirrorKnown && s.waveSet.isPartial u.requested then
    { u with
      requested := s.waveSet.cleanMode
      rect := s.drive.settings.whole
      flags := { u.flags with unknownPromoted := true } }
  else u

def freeLane (s : State) : Option (Fin 16) := laneIds.find? fun i => (s.lane i).isNone

/-- R79: the conditions on a record to start, besides a free lane. -/
def mayStart (s : State) (u : UpdateRecord) (older : List UpdateRecord) : Bool :=
  (s.drive.active.all fun a => !a.2.upd.rect.overlaps u.rect) && (older.all fun v => !v.rect.overlaps u.rect)
  && decide (s.rail.state ≠ .fault) && decide (s.power.state ≠ .nap) && decide (s.power.state ≠ .deep)
  && !s.power.restarting

/-- R80: a record starts in a lane. The lane table takes its place in the record-write queue before the display record
(DESIGN CHOICE, log 42). -/
def startLane (i : Fin 16) (u : UpdateRecord) (s : State) : State :=
  let l : Lane :=
    { upd := { u with started := some s.time }, state := .waitTemp, tile := 0, step := .needRead, frames := 0,
      frame := 0, fetched := 0, completing := false }
  let s1 := changeRecord .display (changeRecord .laneTable (reportActivity (requestRails (s.setLane i (some l)))))
  match freshTemp s1 with
  | some t => laneWithTemp i l t s1.sampler.thermFault s1
  | none =>
    if driveDemandOut s1.sampler then s1
    else s1.setSampler { s1.sampler with demands := s1.sampler.demands ++ [.drive] }

/-- R79: the waiting records in turn, oldest first; `kept` are the older ones that stay. -/
def startPass : List UpdateRecord → List UpdateRecord → State → State
  | [], kept, s => s.setDrive { s.drive with queue := kept }
  | u :: rest, kept, s =>
    match (if mayStart s u kept then freeLane s else none) with
    | some i => startPass rest kept (startLane i u s)
    | none => startPass rest (kept ++ [u]) s

/-- R79: one evaluation of the start rule. -/
def startRule (s : State) : State :=
  if s.drive.queue.isEmpty then s else startPass (s.drive.queue.map (promote s)) [] s

/-! ## Latch (R83) -/

/-- The number of a rectangle's pixel rows and columns inside the geometry. -/
def pixelRows (p : PanelSettings) (r : Rect) : Nat := min (32 * (r.ty1 + 1)) p.height - 32 * r.ty0
def pixelCols (p : PanelSettings) (r : Rect) : Nat := min (32 * (r.tx1 + 1)) p.width - 32 * r.tx0

/-- R88: the mirror byte of a pixel. -/
def mirrorAddr (x y : Nat) : Nat := Config.mirrorBase + 2048 * y + x
def mirrorCurrent (m : Memory) (x y : Nat) : Nat := (readByte m (mirrorAddr x y)).toNat / 16
def mirrorTarget (m : Memory) (x y : Nat) : Nat := (readByte m (mirrorAddr x y)).toNat % 16

/-- R37: a pixel of a slot. -/
def slotPixel (m : Memory) (n : Fin 4) (x y : Nat) : Nat :=
  let b := (readByte m (Config.slotBase + n.val * Config.slotSize + 1024 * y + x / 2)).toNat
  if x % 2 = 0 then b % 16 else b / 16

/-- R83: the mirror bytes of a tile, each with its current level kept and the slot's pixel as its target level. -/
def tileCells (m : Memory) (p : PanelSettings) (n : Fin 4) (place : Nat) : List Host.Cell :=
  let tx := place % Config.tileColumns
  let ty := place / Config.tileColumns
  let r : Rect := ⟨tx, ty, tx, ty⟩
  (List.range (pixelRows p r)).flatMap fun dy => (List.range (pixelCols p r)).map fun dx =>
    let x := 32 * tx + dx
    let y := 32 * ty + dy
    (mirrorAddr x y, BitVec.ofNat 8 (16 * mirrorCurrent m x y + slotPixel m n x y))

/-- R83: the ghost count a latch leaves. -/
def latchGhost (x : WaveSet) (mode limit old : Nat) : Nat :=
  if x.isPartial mode then min (old + (x.mode mode).weight) limit else 0

/-- R83: a tile's read burst ends: the tile is latched. Nothing is latched if the lane no longer waits for it (R90). -/
def latchReadEnd (i : Fin 16) (s : State) : State :=
  match s.lane i with
  | none => s
  | some l =>
    if l.state = .latch ∧ l.step = .reading then
      let place := l.upd.rect.places.getD l.tile 0
      let n := l.upd.source
      let x := s.slotAt n
      let ghost := latchGhost s.waveSet (l.upd.effective.getD 0) s.drive.settings.ghostLimit (sparseGet 0 s.drive.ghost place)
      let s1 := s.setLane i (some { l with step := .needWrite (tileCells s.mem s.drive.settings n place) })
      let s2 :=
        if x.dirty.contains place then
          changeRecord .slotTable (s1.setSlotAt n { x with dirty := setErase x.dirty place })
        else s1
      setGhost s2 (sparseSet 0 s2.drive.ghost place ghost)
    else s

/-- R83: the lanes in the order the next latch claim looks for one, from the lane just served upward, wrapping. -/
def latchOrder (last : Fin 16) : List (Fin 16) := laneIds.map fun k => last + 1 + k

/-- The lane has a latch burst still to make. -/
def needsLatch (s : State) (i : Fin 16) : Bool :=
  match s.lane i with
  | some l => decide (l.state = .latch)
  | none => false

/-- The tiles a lane has latched (R90). -/
def Lane.latched (l : Lane) : List Nat :=
  let more := match l.step with
    | .needWrite _ => 1
    | .needRead | .reading => 0
  l.upd.rect.places.take (l.tile + more)

/-! ## Frame traffic (R84, R85, R86) -/

/-- The lane has a class-1 burst still to make: a frame's mirror rows and table, or the completion's rows (log 11). -/
def Lane.needsFrame (p : PanelSettings) (l : Lane) : Bool :=
  match l.state with
  | .waitRails => decide (l.fetched < pixelRows p l.upd.rect + 1)
  | .driving =>
    if l.completing then decide (l.fetched < pixelRows p l.upd.rect)
    else decide (l.frame < l.frames) && decide (l.fetched < pixelRows p l.upd.rect + 1)
  | .waitTemp | .latch => false

/-- R83, R85: where a claim does not wait, the drive engine places the next one, if a lane has a burst to make. -/
def placeClaims (s : State) : State :=
  let c1 := match s.drive.claim1 with
    | some i => some i
    | none => laneIds.find? fun i =>
      match s.lane i with
      | some l => l.needsFrame s.drive.settings
      | none => false
  let c5 := match s.drive.claim5 with
    | some i => some i
    | none => (latchOrder s.drive.lastLatch).find? (needsLatch s)
  s.setDrive { s.drive with claim1 := c1, claim5 := c5 }

/-- R86: the completion's cells of one pixel row: the current level set equal to the target. -/
def completionCells (m : Memory) (p : PanelSettings) (r : Rect) (row : Nat) : List Host.Cell :=
  (List.range (pixelCols p r)).map fun dx =>
    let x := 32 * r.tx0 + dx
    let y := 32 * r.ty0 + row
    (mirrorAddr x y, BitVec.ofNat 8 (16 * mirrorTarget m x y + mirrorTarget m x y))

/-- R86: the last completion write is granted: the record ends DONE. The activity is reported before the rails are
released, so in DOZE it withdraws a release request that HOLD would have found (R100; DESIGN CHOICE, log 9). -/
def completeLane (i : Fin 16) (l : Lane) (s : State) : State :=
  let clean := !s.waveSet.isPartial (l.upd.effective.getD 0)
  let whole := decide (l.upd.rect = s.drive.settings.whole)
  let s1 := reportActivity (changeRecord .laneTable (s.setLane i none))
  let s2 :=
    if clean && whole && !s1.drive.mirrorKnown then
      changeRecord .display (s1.setDrive { s1.drive with mirrorKnown := true })
    else s1
  releaseRails (endRecord .done s2 l.upd)

/-- R84: a lane in WAIT-RAILS enters DRIVING at a frame boundary. -/
def enterDriving (s : State) : State :=
  laneIds.foldl (fun s i =>
    match s.lane i with
    | some l =>
      if l.state = .waitRails then
        changeRecord .laneTable (s.setLane i (some { l with state := .driving, frame := 0 }))
      else s
    | none => s) s

/-- R85: the lane's data for its frame has all been read. -/
def frameReady (s : State) (i : Fin 16) (l : Lane) : Bool :=
  decide (pixelRows s.drive.settings l.upd.rect + 1 ≤ l.fetched) && match s.port.burst with
    | some b => decide (b.kind ≠ .frameRead i)
    | none => true

def driveOf : Nat → Option Drive | 1 => some .lighten | 2 => some .darken | _ => none

/-- R85: the drive of a lane's pixels for its frame; those that receive NONE are not listed. -/
def laneDrives (s : State) (l : Lane) : List PixelDrive :=
  let p := s.drive.settings
  let r := l.upd.rect
  let o := (s.waveSet.tableAt (l.upd.effective.getD 0) (l.upd.band.getD 0)).1
  (List.range (pixelRows p r)).flatMap fun dy => (List.range (pixelCols p r)).filterMap fun dx =>
    let x := 32 * r.tx0 + dx
    let y := 32 * r.ty0 + dy
    (driveOf (driveEntry s.mem o l.frame (mirrorCurrent s.mem x y) (mirrorTarget s.mem x y))).map fun e => ⟨x, y, e⟩

/-- R85: a DRIVING lane at a boundary: its frame is sent, or it is late, or its last frame has ended and the
completion writes begin (R86). -/
def boundaryLane (s : State) (i : Fin 16) (l : Lane) : State × List PixelDrive :=
  if l.completing then (s, [])
  else if l.frames ≤ l.frame then (s.setLane i (some { l with completing := true, fetched := 0 }), [])
  else if frameReady s i l then
    (s.setLane i (some { l with frame := l.frame + 1, fetched := 0 }), laneDrives s l)
  else
    (changeRecord .display (s.setDrive { s.drive with late := satInc 65535 s.drive.late }), [])

def boundaryStep (acc : State × List PixelDrive) (i : Fin 16) : State × List PixelDrive :=
  match acc.1.lane i with
  | some l =>
    if l.state = .driving then
      let r := boundaryLane acc.1 i l
      (r.1, acc.2 ++ r.2)
    else acc
  | none => acc

/-- R84, R85: one frame boundary. With no lane DRIVING nothing is sent. -/
def frameBoundary (s : State) : State :=
  let s1 := enterDriving s
  let r := laneIds.foldl boundaryStep (s1, [])
  let driving := s1.drive.active.any fun a => decide (a.2.state = .driving)
  r.1.setDrive { r.1.drive with panelBus := if driving then some r.2 else none }

/-! ## Aborts (R90) -/

/-- R90: the dirty flags of the tiles a lane had latched are set again in the source slot's map. -/
def redirty (l : Lane) (s : State) : State :=
  let x := s.slotAt l.upd.source
  s.setSlotAt l.upd.source { x with dirty := l.latched.foldl setInsert x.dirty }

/-- R90: every active record ends ABORTED, and every lane becomes FREE. The display record, the lane table and the slot
table take their places in the record-write queue in that order (DESIGN CHOICE, log 42). -/
def abortLanes (s : State) : State :=
  let gone := s.drive.active
  let s1 := s.setDrive { s.drive with lanes := Vector.replicate 16 none, claim1 := none, claim5 := none }
  let unknown := gone.any fun a => decide (a.2.state = .driving)
  let s2 :=
    if unknown && s1.drive.mirrorKnown then
      changeRecord .display (s1.setDrive { s1.drive with mirrorKnown := false })
    else s1
  let s3 := if gone.isEmpty then s2 else changeRecord .laneTable s2
  gone.foldl (fun s a => endRecord .aborted (redirty a.2 s) a.2.upd) s3

/-! ## Requests -/

/-- R75: the rectangle of a region; none when the SHOWN slot's map holds no set flag. -/
def regionRect (s : State) (shown : Fin 4) : Region → Option Rect
  | .full => some s.drive.settings.whole
  | .rect r => some r
  | .dirty =>
    match (s.slotAt shown).dirty with
    | [] => none
    | p :: rest =>
      let tile := fun q : Nat => (⟨q % Config.tileColumns, q / Config.tileColumns, q % Config.tileColumns,
        q / Config.tileColumns⟩ : Rect)
      some (rest.foldl (fun r q => r.join (tile q)) (tile p))

/-- R74, test 5: the rectangle is inverted or extends beyond the panel. -/
def badRect (p : PanelSettings) : Region → Bool
  | .rect r => decide (r.tx1 < r.tx0) || decide (r.ty1 < r.ty0) || decide (p.tw ≤ r.tx1) || decide (p.th ≤ r.ty1)
  | .full | .dirty => false

/-- The departure's drain phase, or DEEP (R48, R74). -/
def drainOrDeep : PowerState → Bool
  | .departing .drain | .deep => true
  | .init | .active | .doze | .nap | .departing .grace => false

/-- R76: the youngest waiting record takes the new update. -/
def mergesInto (y : UpdateRecord) (mode : Nat) (source : Fin 4) (r : Rect) : Bool :=
  decide (y.origin = .request) && decide (y.requested = mode) && decide (y.source = source)
  && decide (y.tags.length < 4) && (y.rect.overlaps r || y.rect.edgeTouches r)

/-- R76: the update is merged into the youngest waiting record, or admitted as a new one, or finds the queue full. -/
def admitPresent (tag mode : Nat) (source : Fin 4) (r : Rect) (s : State) : State × Reply :=
  let fresh : UpdateRecord :=
    { tags := [tag], serial := 0, origin := .request, source := source, rect := r, requested := mode,
      effective := none, band := none, flags := {}, queued := s.time, press := 0#32, started := none,
      done := none }
  let append : State × Reply :=
    if Config.queuePlaces ≤ s.drive.queue.length then (s, .refused .queueFull)
    else (admitRecord fresh s, .accepted {} 0#32)
  match s.drive.queue.getLast? with
  | some y =>
    if mergesInto y mode source r then
      (setQueue (s.drive.queue.dropLast ++ [{ y with tags := y.tags ++ [tag], rect := y.rect.join r }]) s,
       .accepted { merged := true } 0#32)
    else append
  | none => append

/-- PRESENT (R74, R75, R76). -/
def presentRequest (r : List Byte) (s : State) : State × Reply :=
  let mode := argU8 r 4
  let shown := s.slot.withRole .shown
  match regionOfArg r with
  | none => (s, .refused .badArg)
  | some region =>
    if reqTag r = 0 then (s, .refused .badArg)
    else if s.wave.setState ≠ .loaded then (s, .refused .notReady)
    else if s.rail.state = .fault then (s, .refused .fault)
    else if drainOrDeep s.power.state then (s, .refused .state)
    else if s.wave.modeCount ≤ mode ∨ badRect s.drive.settings region then (s, .refused .badArg)
    else if !(s.slotAt shown).ready then (s, .refused .emptySlot)
    else
      match regionRect s shown region with
      | none => (s, doneNothing)
      | some rect => admitPresent (reqTag r) mode shown rect s

/-- How often a tag appears in a record's list. -/
def tagCount (tag : Nat) (u : UpdateRecord) : Nat := u.tags.count tag

/-- R78: a waiting record loses every appearance of a tag; for each, a CANCELLED entry. One that keeps no tag ends. -/
def cancelIn (tag : Nat) (s : State) (u : UpdateRecord) : State :=
  let n := tagCount tag u
  let s1 := if n = u.tags.length ∧ 0 < n then changeSource u.source false s else s
  (List.replicate n tag).foldl (fun s t => produce .display (updateEndBody (u.ended s.time) .cancelled) t s) s1

/-- The record as a CANCEL leaves it, none if it ended. -/
def afterCancel (tag : Nat) (u : UpdateRecord) : Option UpdateRecord :=
  let kept := u.tags.filter (· ≠ tag)
  if 0 < tagCount tag u then
    if kept.isEmpty then none else some { u with tags := kept }
  else some u

/-- CANCEL (R78). The waiting records lose the tag oldest first (DESIGN CHOICE, log 9). -/
def cancelRequest (r : List Byte) (s : State) : State × Reply :=
  let tag := argU16 r 4
  let found := (s.drive.queue.map (tagCount tag)).foldl (· + ·) 0
  if tag = 0 then (s, .refused .badArg)
  else if 0 < found then
    let s1 := s.drive.queue.foldl (cancelIn tag) (setQueue (s.drive.queue.filterMap (afterCancel tag)) s)
    (s1, .done {} (BitVec.ofNat 32 found))
  else if s.drive.active.any fun a => a.2.upd.tags.contains tag then (s, .refused .tooLate)
  else (s, .refused .notFound)

/-- R94: a width or height: rounded down to a multiple of 8, then clamped. -/
def panelSize (top v : Nat) : Nat := clamp 256 top (v / 8 * 8)

/-- R94: the six settings of a record, each in its range. -/
def panelOf (r : List Byte) : PanelSettings :=
  { width := panelSize 2048 (argU16 r 4), height := panelSize 1536 (argU16 r 6), ghostLimit := clamp 1 255 (argU8 r 8),
    pageMode := argU8 r 9, freshness := clamp 1 600 (argU16 r 10), hold := clamp 0 60000 (argU16 r 12) }

/-- R95: what a change of geometry does besides: the mirror is UNKNOWN, every dirty map clear, every ghost count 0. -/
def clearGeometry (s : State) : State :=
  let s1 := s.setDrive { s.drive with mirrorKnown := false, ghost := [] }
  changeRecord .slotTable (fourIds.foldl (fun s n => s.setSlotAt n { s.slotAt n with dirty := [] }) s1)

/-- SET-PANEL (R94, R95). -/
def panelRequest (r : List Byte) (s : State) : State × Reply :=
  let p := panelOf r
  let asked : PanelSettings := ⟨argU16 r 4, argU16 r 6, argU8 r 8, argU8 r 9, argU16 r 10, argU16 r 12⟩
  let moved := decide (p.width ≠ s.drive.settings.width ∨ p.height ≠ s.drive.settings.height)
  if moved && queueBusy s then (s, .refused .busy)
  else
    let ghost := s.drive.ghost.map fun g => (g.1, min g.2 p.ghostLimit)
    let s1 := changeRecord .display (s.setDrive { s.drive with settings := p, ghost := ghost })
    (if moved then clearGeometry s1 else s1, doneClamped (decide (p ≠ asked)))

end Sys2Proof.Machine
end

