-- ==== Sys2Proof/Machine/RailFault.lean ====
section
/-! DEFINITION. Rail faults (6.4 to 6.6): entry into FAULT, which ends every lane, the ways out of it, and what the rail
sequencer does at each change of rail good and each expiry of its timer. -/

namespace Sys2Proof.Machine

/-- R103, R104: FAULT is left for FALLING while rail good is high, for OFF otherwise. The check timer stops; the cause
and the count are kept. -/
def leaveFault (s : State) : State := if s.rail.good then enterFalling s else enterOff s

/-- R102: the state changes to FAULT with its cause and one more fault. -/
def latchFault (cause : RailCause) (s : State) : State :=
  railTo .fault none (s.setRail { s.rail with cause := cause, count := satInc 255 s.rail.count })

/-- R102, R91, R103: the entry into FAULT. Every lane is aborted and the fault is reported; in a departure's drain the
waiting records end DROPPED; with a release request of purpose DEEP the state leaves FAULT at once. The entry tells
'made UNKNOWN' for a change from KNOWN only (DEDUCED, log 34). The entries of the aborted records come before RAIL-FAULT and
those of the dropped records after it (DESIGN CHOICE, log 9). -/
def enterFault (cause : RailCause) (s : State) : State :=
  let left := s.rail.state
  let lanes := activeCount s
  let known := s.drive.mirrorKnown
  let s1 := abortLanes (latchFault cause s)
  let s2 := produce .display (.railFault cause left s1.rail.count lanes (known && !s1.drive.mirrorKnown)) 0 s1
  let s3 := if s2.power.state = .departing .drain then dropWaiting s2 else s2
  if s3.power.release = some .deep then leaveFault s3 else s3

/-- R98, R103: rail good rises. It is ignored in OFF and FALLING, and in DEEP, where the state is OFF (R105).
A rise found with rail good already high is taken as a rise (DESIGN CHOICE, log 44). -/
def goodRises (s : State) : State :=
  let s1 := s.setRail { s.rail with good := true }
  match s.rail.state with
  | .rising => enterOn s1
  | .fault => faultRise s1
  | .off | .on | .hold | .falling => s1

/-- R101, R102, R103: rail good falls. A fall found with rail good already low is taken as a fall (DESIGN CHOICE,
log 44). -/
def goodFalls (s : State) : State :=
  let s1 := s.setRail { s.rail with good := false }
  match s.rail.state with
  | .on | .hold => enterFault .dropout s1
  | .falling => enterOff s1
  | .fault => faultFall s1
  | .off | .rising => s1

/-- R99: a frame boundary; the frame clock runs in ON only. -/
def boundary (s : State) : State := if s.rail.state = .on then frameBoundary s else s

/-- R98: the rise timer expires. With rail good high the state would have left RISING already. -/
def riseExpires (s : State) : State :=
  if s.rail.state = .rising ∧ s.rail.timer.isSome then
    if s.rail.good then enterOn s else enterFault .riseTimeout s
  else s

/-- R100: the hold timer expires. -/
def railHoldExpires (s : State) : State :=
  if s.rail.state = .hold ∧ s.rail.timer.isSome then enterFalling s else s

/-- R101: the fall timer expires. -/
def fallExpires (s : State) : State :=
  if s.rail.state = .falling ∧ s.rail.timer.isSome then fallExpired s else s

/-- R103: the 100 ms check of FAULT expires. -/
def checkExpires (s : State) : State :=
  if s.rail.state = .fault ∧ s.rail.timer.isSome then faultCheck s else s

/-- The power controller makes a release request of purpose DEEP (R179): HOLD falls at once (R100) and FAULT is left
(R103). -/
def requestReleaseDeep (s : State) : State :=
  let s1 := s.setPower { s.power with release := some .deep }
  match s1.rail.state with
  | .hold => enterFalling s1
  | .fault => leaveFault s1
  | .off | .rising | .on | .falling => s1

/-- CLEAR-RAIL-FAULT (R104). -/
def clearRailFaultRequest (s : State) : State × Reply :=
  if s.rail.state = .fault then (leaveFault s, .done {} (BitVec.ofNat 32 s.rail.count))
  else (s, .refused .state)

end Sys2Proof.Machine
end

