-- ==== Sys2Proof/Machine/Sampler.lean ====
section
/-! DEFINITION. The sampler (9.1 to 9.3): the choice of conversions, the channels' arithmetic, and the sampler's requests.
What a completed conversion hands on is in Machine/Conversion.lean. -/

namespace Sys2Proof.Machine

/-- The samples record is changed (R139). -/
def changeSamples (p : Sampler) (s : State) : State := changeRecord .samples (s.setSampler p)

def Sampler.setChan (p : Sampler) (c : Channel) (x : ChannelUnit) : Sampler := { p with chans := p.chans.set c x }

/-! ## Schedule (R140 to R142) -/

def Demand.channel : Demand → Channel | .drive => .therm | .request c => c
def Demand.kind : Demand → ConvKind | .drive => .driveDemand | .request _ => .requestDemand

/-- R142: in NAP an AMB item is not eligible. -/
def eligible (st : PowerState) (c : Channel) : Bool := !(decide (st = .nap) && decide (c = .amb))

/-- R142: the length of a conversion in microseconds. -/
def conversionTime (st : PowerState) : Nat := if st = .nap then Config.conversionSlow else Config.conversionFast

/-- R141: a demand's conversion begins: it leaves the list. -/
def beginDemand (d : Demand) (s : State) : State :=
  s.setSampler { s.sampler with
    demands := s.sampler.demands.erase d
    converter := .converting d.channel d.kind s.time (conversionTime s.power.state) }

/-- R140: a periodic conversion begins: the due flag clears and the next due time is a period away. -/
def beginPeriodic (c : Channel) (s : State) : State :=
  let x := s.sampler.chans.get c
  s.setSampler ({ s.sampler with
    converter := .converting c .periodic s.time (conversionTime s.power.state) }.setChan c
      { x with due := false, nextDue := some (s.after x.period) })

/-- R142: the converter, IDLE, chooses its next conversion. -/
def chooseConversion (s : State) : State :=
  match s.sampler.converter with
  | .idle =>
    match s.sampler.demands.find? fun d => eligible s.power.state d.channel with
    | some d => beginDemand d s
    | none =>
      match [Channel.batt, .therm, .amb].find? fun c => (s.sampler.chans.get c).due && eligible s.power.state c with
      | some c => beginPeriodic c s
      | none => s
  | .converting .. | .stopped => s

/-- R140: part time reaches a channel's next due time; nothing happens while the converter is STOPPED (R142). -/
def dueChannel (c : Channel) (s : State) : State :=
  let x := s.sampler.chans.get c
  if s.sampler.converter ≠ .stopped ∧ x.nextDue.isSome then s.setSampler (s.sampler.setChan c { x with due := true })
  else s

/-- R142: the entry into DEEP. -/
def stopSampler (s : State) : State :=
  let p := s.sampler
  let stop := fun x : ChannelUnit => { x with due := false }
  s.setSampler { p with
    converter := .stopped
    demands := []
    chans := ⟨stop p.chans.batt, stop p.chans.therm, stop p.chans.amb⟩
    beforeDeep := p.beforeDeep || p.chans.therm.value.isSome }

/-- R142: the wake from DEEP: the converter is IDLE and every channel in use is due. -/
def wakeSampler (s : State) : State :=
  let p := s.sampler
  let wake := fun x : ChannelUnit => { x with due := decide (0 < x.period), nextDue := none }
  s.setSampler { p with
    converter := .idle
    chans := ⟨wake p.chans.batt, wake p.chans.therm, wake p.chans.amb⟩ }

/-! ## Arithmetic (R143, R144) -/

/-- R143: millivolts. -/
def battValue (scale code : Nat) : Int := (code * scale / 1024 : Nat)

/-- R144: a thermistor fault. -/
def thermFaultCode (code : Nat) : Bool := decide (code = 0 ∨ code = 1023)

/-- R144: the table's value for a code; the quotient is cut toward zero. -/
def thermValue : List (Nat × Int) → Nat → Int
  | [], _ => 0
  | [(_, t)], _ => t
  | (c0, t0) :: (c1, t1) :: rest, code =>
    if code ≤ c0 then t0
    else if code < c1 then t0 + ((t1 - t0) * ((code : Int) - c0)).tdiv ((c1 : Int) - c0)
    else thermValue ((c1, t1) :: rest) code

/-- R143, R144: the value a conversion gives; none at a thermistor fault. -/
def convValue (p : Sampler) (c : Channel) (code : Nat) : Option Int :=
  match c with
  | .batt => some (battValue p.scale code)
  | .therm => if thermFaultCode code then none else some (thermValue p.therm code)
  | .amb => some (code : Int)

/-- R143: a channel after a conversion at a time. -/
def ChannelUnit.converted (x : ChannelUnit) (code : Nat) (v : Option Int) (now : Time) : ChannelUnit :=
  { x with
    count := x.count + 1#16
    conv := some (code, now)
    value := match v with | some y => some (y, now) | none => x.value }

/-- R143, R144: the sampler after a conversion of a channel, the converter IDLE again. -/
def Sampler.completed (p : Sampler) (c : Channel) (code : Nat) (now : Time) : Sampler :=
  let v := convValue p c code
  let p1 := { p with converter := .idle }.setChan c ((p.chans.get c).converted code v now)
  match c with
  | .therm => { p1 with thermFault := v.isNone, beforeDeep := p.beforeDeep && v.isNone }
  | .batt | .amb => p1

/-! ## Requests (R145 to R147) -/

/-- R146: a channel after a change of its period. -/
def ChannelUnit.setPeriod (x : ChannelUnit) (period : Nat) (now : Time) : ChannelUnit :=
  if period = x.period then x
  else { x with
    period := period
    due := false
    nextDue := if period = 0 then none else some (now + BitVec.ofNat 32 period) }

/-- SET-SAMPLER (R146). -/
def samplerRequest (r : List Byte) (s : State) : State × Reply :=
  let batt := clampOrZero 100 60000 (argU16 r 4)
  let therm := clampOrZero 100 60000 (argU16 r 6)
  let amb := clampOrZero 100 60000 (argU16 r 8)
  let scale := clamp 1000 8000 (argU16 r 10)
  let p := s.sampler
  (changeSamples { p with
      scale := scale
      chans := ⟨p.chans.batt.setPeriod batt s.time, p.chans.therm.setPeriod therm s.time,
        p.chans.amb.setPeriod amb s.time⟩ } s,
   doneClamped (decide (batt ≠ argU16 r 4 ∨ therm ≠ argU16 r 6 ∨ amb ≠ argU16 r 8 ∨ scale ≠ argU16 r 10)))

/-- SAMPLE-NOW (R147). -/
def sampleRequest (r : List Byte) (s : State) : State × Reply :=
  match channelOfCode (argU8 r 4) with
  | none => (s, .refused .badArg)
  | some c =>
    if s.sampler.demands.contains (.request c) then (s, doneNothing)
    else (s.setSampler { s.sampler with demands := s.sampler.demands ++ [.request c] }, .done {} 0#32)

/-- The points of a THERMISTOR page (12.1), `n` of them from offset `o`. -/
def thermPoints (page : List Byte) (o : Nat) : Nat → List (Nat × Int)
  | 0 => []
  | n + 1 => (argU16 page o, signedOf 16 (argU16 page (o + 2))) :: thermPoints page (o + 4) n

/-- R145: the codes are at most 1023 and rise strictly. -/
def thermTableOk : List (Nat × Int) → Bool
  | [] => true
  | [(c, _)] => decide (c ≤ 1023)
  | (c0, _) :: (c1, t1) :: rest => decide (c0 < c1) && thermTableOk ((c1, t1) :: rest)

/-- LOAD-TABLE THERMISTOR with the page's contents (R145). -/
def loadThermistor (page : List Byte) (s : State) : State × Reply :=
  let t := thermPoints page 0 8
  if thermTableOk t then (changeSamples { s.sampler with therm := t } s, .done {} 0#32)
  else (s, .refused .badTable)

end Sys2Proof.Machine
end

