-- ==== Sys2Proof/Machine/Slots.lean ====
section
/-! DEFINITION. The slot unit (chapter 3): dirty marking and content invalidation, MARK, turns, jumps and the pending-turn
lists. Every change of a value of the slot table changes its record (R39). -/

namespace Sys2Proof.Machine

/-! ## Content (R41, R42) -/

/-- A slot's content changes. -/
def setContent (n : Fin 4) (ready : Bool) (tag : Nat) (s : State) : State :=
  changeRecord .slotTable (s.setSlotAt n { s.slotAt n with ready := ready, tag := tag })

/-- A READY slot becomes EMPTY and is reported, with the role it holds and its former tag. -/
def emptySlot (n : Fin 4) (cause : EmptyCause) (s : State) : State :=
  let x := s.slotAt n
  if x.ready then produce .input (.slotEmptied n x.role cause x.tag) 0 (setContent n false 0 s) else s

/-- R42: the tag the slot of a role must carry beside a SHOWN slot of a content and tag; none where no tag will do.
Tags do not wrap. -/
def neighbourTag (shown : Slot) : Role → Option Nat
  | .ahead => if shown.ready ∧ shown.tag + 1 < 2 ^ 32 then some (shown.tag + 1) else none
  | .behind => if shown.ready ∧ 0 < shown.tag then some (shown.tag - 1) else none
  | .shown | .spare => none

/-- R42: the adjacency test of the slot that carries a role, AHEAD or BEHIND. -/
def testAdjacency (r : Role) (s : State) : State :=
  let n := s.slot.withRole r
  if neighbourTag (s.slotAt (s.slot.withRole .shown)) r = some (s.slotAt n).tag then s else emptySlot n .adjacency s

/-! ## Dirty marking (R40, R41) -/

/-- R40: the tile place a slot byte lies in, none outside the geometry. -/
def bytePlace (p : PanelSettings) (offset : Nat) : Option Nat :=
  let y := offset / 1024
  let b := offset % 1024
  if 2 * b + 1 < p.width ∧ y < p.height then some (tilePlace (b / 16) (y / 32)) else none

/-- R40: a tile is marked dirty in a slot's map. -/
def markDirty (n : Fin 4) (place : Nat) (s : State) : State :=
  let x := s.slotAt n
  if x.dirty.contains place then s
  else changeRecord .slotTable (s.setSlotAt n { x with dirty := setInsert x.dirty place })

/-- R40, R41: a byte written into a slot at an offset. -/
def slotByte (n : Fin 4) (offset : Nat) (s : State) : State :=
  match bytePlace s.drive.settings offset with
  | none => s
  | some place =>
    let s1 := markDirty n place s
    if (s1.slotAt n).role = .shown then s1 else emptySlot n .write s1

/-! ## Turns (R47 to R54) -/

/-- R48: the first test that refuses a turn. -/
def turnRefusal (s : State) : Option Reason :=
  if s.power.battery = .critical then some .state
  else if drainOrDeep s.power.state then some .state
  else if s.wave.setState ≠ .loaded then some .notReady
  else if s.rail.state = .fault then some .fault
  else none

/-- The role of a turn's target slot (R49). -/
def Dir.target : Dir → Role | .forward => .ahead | .back => .behind

def Dir.opposite : Dir → Dir | .forward => .back | .back => .forward

/-- R51: the role after a turn of a slot, by its role before. -/
def Dir.rotate : Dir → Role → Role
  | .forward, .ahead => .shown | .forward, .spare => .ahead | .forward, .shown => .behind | .forward, .behind => .spare
  | .back, .behind => .shown | .back, .shown => .ahead | .back, .spare => .behind | .back, .ahead => .spare

/-- The four slots with new roles and nothing else changed. -/
def SlotUnit.mapRoles (f : Role → Role) (u : SlotUnit) : SlotUnit :=
  let g := fun n : Fin 4 => { u.slots[n] with role := f u.slots[n].role }
  { u with slots := #v[g 0, g 1, g 2, g 3] }

def SlotUnit.list (u : SlotUnit) : Dir → List PendingTurn | .forward => u.forward | .back => u.back

def SlotUnit.setList (u : SlotUnit) (d : Dir) (l : List PendingTurn) : SlotUnit :=
  match d with
  | .forward => { u with forward := l }
  | .back => { u with back := l }

/-- A change of the slot unit's values, shown in its record. -/
def changeSlots (u : SlotUnit) (s : State) : State := changeRecord .slotTable (s.setSlot u)

/-- R53: the turn serial rises by one, from 65535 to 1. -/
def nextSerial (n : Nat) : Nat := if n = 65535 then 1 else n + 1

/-- R52, R53, R56: the slot that left SHOWN is superseded, the new SHOWN slot's map is cleared, the serial rises, and the
full-panel record is handed to the update queue. -/
def showSlot (o : UpdateOrigin) (old new : Fin 4) (press : Time) (s : State) : State :=
  let s1 := supersede old s
  let s2 := s1.setSlotAt new { s1.slotAt new with dirty := [] }
  let serial := nextSerial s2.slot.serial
  admitTurn o new serial press (changeSlots { s2.slot with serial := serial } s2)

/-- R50 to R53: a turn is carried out, but for its TURN entry. -/
def carryOut (d : Dir) (press : Time) (s : State) : State :=
  let old := s.slot.withRole .shown
  let new := s.slot.withRole d.target
  let s1 := changeSlots (s.slot.mapRoles d.rotate) s
  showSlot .turn old new press (testAdjacency d.target s1)

/-- R54: the TURN entry of a turn that has been decided. -/
def turnEntry (d : Dir) (o : TurnOrigin) (out : TurnOutcome) (hostTag : Nat) (deferred : Bool) (s : State) : State :=
  produce .input
    (.turn d o out (s.slot.withRole .shown) (s.slot.list d).length (s.slot.list d.opposite).length
      (if o = .request then hostTag else 0) deferred)
    (if out = .started then s.slot.serial else 0) s

/-- R49: what a turn that has passed R48 does. -/
def decideTurn (d : Dir) (o : TurnOrigin) (press : Time) (hostTag : Nat) (s : State) : TurnOutcome × State :=
  if (s.slot.list d.opposite) ≠ [] then
    (.cancelledPending, changeSlots (s.slot.setList d.opposite (s.slot.list d.opposite).dropLast) s)
  else if (s.slotAt (s.slot.withRole d.target)).ready then (.started, carryOut d press s)
  else if (s.slot.list d).length < 8 then
    (.pending, changeSlots (s.slot.setList d (s.slot.list d ++ [⟨o, press, hostTag⟩])) s)
  else (.dropped, s)

/-- R47 to R54: a turn is taken, decided and reported. -/
def takeTurn (d : Dir) (o : TurnOrigin) (press : Time) (hostTag : Nat) (s : State) : TurnOutcome × State :=
  let r := match turnRefusal s with
    | some reason => (TurnOutcome.refused reason, s)
    | none => decideTurn d o press hostTag s
  (r.1, turnEntry d o r.1 hostTag false r.2)

/-- R55: the reply to a TURN request. -/
def turnReply (out : TurnOutcome) (serial : Nat) : Reply :=
  match out with
  | .started => .accepted {} (BitVec.ofNat 32 serial)
  | .pending | .cancelledPending => .done {} 0#32
  | .dropped => doneNothing
  | .refused r => .refused r

/-- TURN (R47, R55). -/
def turnRequest (r : List Byte) (s : State) : State × Reply :=
  match dirOfArg (argU8 r 4) with
  | none => (s, .refused .badArg)
  | some d =>
    let t := takeTurn d .request s.time (reqTag r) s
    (t.2, turnReply t.1 t.2.slot.serial)

/-! ## MARK (R43 to R45) -/

/-- R43: the first test a MARK fails. -/
def markRefusal (s : State) (n : Fin 4) (ready : Bool) (tag : Nat) : Option Reason :=
  let role := (s.slotAt n).role
  let shown := s.slotAt (s.slot.withRole .shown)
  match role with
  | .ahead | .behind =>
    if ready then
      if !shown.ready then some .emptySlot
      else if neighbourTag shown role = some tag then none
      else some .badArg
    else none
  | .shown | .spare => none

/-- R45: the oldest turn of a list is released by a MARK, and carried out if R48 lets it. The serial of the turn fired,
or none. -/
def releaseTurn (d : Dir) (s : State) : Option Nat × State :=
  match s.slot.list d with
  | [] => (none, s)
  | t :: rest =>
    let s1 := changeSlots (s.slot.setList d rest) s
    match turnRefusal s1 with
    | some reason => (none, turnEntry d t.origin (.refused reason) t.hostTag true s1)
    | none =>
      let s2 := carryOut d t.press s1
      (some s2.slot.serial, turnEntry d t.origin .started t.hostTag true s2)

/-- R44, R45: an accepted MARK. -/
def applyMark (n : Fin 4) (ready : Bool) (tag : Nat) (s : State) : Option Nat × State :=
  let s1 := if (s.slotAt n).ready = ready ∧ (s.slotAt n).tag = tag then s else setContent n ready tag s
  match (s.slotAt n).role with
  | .shown => (none, testAdjacency .behind (testAdjacency .ahead s1))
  | .ahead => if ready then releaseTurn .forward s1 else (none, s1)
  | .behind => if ready then releaseTurn .back s1 else (none, s1)
  | .spare => (none, s1)

/-- MARK (R43 to R45). The content value is EMPTY, 0, or READY, 1. -/
def markRequest (r : List Byte) (s : State) : State × Reply :=
  match slotOfArg (argU8 r 4) with
  | none => (s, .refused .badArg)
  | some n =>
    if 1 < argU8 r 5 then (s, .refused .badArg)
    else
      let ready := decide (argU8 r 5 = 1)
      let tag := if ready then argU32 r 8 else 0
      match markRefusal s n ready tag with
      | some reason => (s, .refused reason)
      | none =>
        let same := decide ((s.slotAt n).ready = ready ∧ (s.slotAt n).tag = tag)
        let m := applyMark n ready tag s
        (m.2, .done { nothingToDo := same && m.1.isNone } (BitVec.ofNat 32 (m.1.getD 0)))

/-! ## JUMP and CANCEL-TURNS (R56, R57) -/

/-- R57: both pending-turn lists are emptied, without entries. -/
def emptyTurns (s : State) : State :=
  if s.slot.forward = [] ∧ s.slot.back = [] then s
  else changeSlots { s.slot with forward := [], back := [] } s

/-- R56: the role after a jump. -/
def jumpRole : Role → Role | .spare => .shown | .shown => .spare | .ahead => .ahead | .behind => .behind

/-- R56: an accepted jump. AHEAD is emptied, and reported, before BEHIND (DESIGN CHOICE, log 9). -/
def applyJump (n : Fin 4) (s : State) : State :=
  let old := s.slot.withRole .shown
  let s1 := changeSlots (s.slot.mapRoles jumpRole) s
  let s2 := emptySlot (s1.slot.withRole .behind) .jump (emptySlot (s1.slot.withRole .ahead) .jump s1)
  showSlot .jump old n s.time (emptyTurns s2)

/-- JUMP (R56). -/
def jumpRequest (r : List Byte) (s : State) : State × Reply :=
  match slotOfArg (argU8 r 4) with
  | none => (s, .refused .badArg)
  | some n =>
    match turnRefusal s with
    | some reason => (s, .refused reason)
    | none =>
      if (s.slotAt n).role ≠ .spare then (s, .refused .badArg)
      else if !(s.slotAt n).ready then (s, .refused .emptySlot)
      else
        let s1 := applyJump n s
        (s1, .accepted {} (BitVec.ofNat 32 s1.slot.serial))

/-- CANCEL-TURNS (R57). -/
def cancelTurnsRequest (s : State) : State × Reply :=
  (emptyTurns s, .done { nothingToDo := decide (s.slot.forward = [] ∧ s.slot.back = []) } 0#32)

end Sys2Proof.Machine
end

