-- ==== Sys2Proof/Machine/Power.lean ====
section
/-! DEFINITION. The power controller (chapter 11): the power state with what its neighbours do at each change, the timers,
the battery state, departures, DEEP and the wake, and its requests. Its resets are in Machine/Reset.lean. -/

namespace Sys2Proof.Machine

/-! ## The memory port's retention (R17) -/

/-- R17: the power controller asks for retention. A port that is LEAVING finishes its exit first. -/
def askRetention (s : State) : State :=
  match s.port.retention with
  | .serving => s.setPort { s.port with retention := .entering }
  | .entering | .retained | .leaving => s

/-- R17: the power controller withdraws its request. -/
def withdrawRetention (s : State) : State :=
  match s.port.retention with
  | .entering => s.setPort s.port.serve
  | .retained => s.setPort { s.port with retention := .leaving }
  | .serving | .leaving => s

/-! ## State changes (R172) -/

/-- The power controller's values change, and the record with them. -/
def powerSet (p : Power) (s : State) : State := changePower (s.setPower p)

/-- R176: NAP is left for a state, with a wake cause. -/
def leaveNap (st : PowerState) (wake : WakeCause) (s : State) : State :=
  let s1 := powerSet { s.power with state := st, lastWake := wake, release := none, napDue := false } s
  recompute false (resumeLight (withdrawRetention s1))

/-- R176: a wake cause taken in NAP moves the state to DOZE, where the nap timer starts afresh. -/
def wakeFromNap (wake : WakeCause) (s : State) : State :=
  if s.power.state = .nap then
    let s1 := leaveNap .doze wake s
    s1.setPower { s1.power with napTimer := timerAt s1.time s1.power.napAfter }
  else s

/-- R175: NAP is entered. -/
def enterNap (s : State) : State :=
  recompute false (stopLight (askRetention (powerSet { s.power with state := .nap } s)))

/-- R175: the nap condition. -/
def napReady (s : State) : Bool :=
  !queueBusy s && decide (s.rail.state = .off) && decide (s.light.coolDuty = 0 ∧ s.light.warmDuty = 0)
  && !s.intake.parser.inParse && decide (s.wave.setState ≠ .loading)
  && s.request.fifo.isEmpty && s.request.inHand.isNone

/-- R175: in DOZE with the nap-due flag set, the release request is made and the nap condition tested. -/
def napStep (s : State) : State :=
  if s.power.state = .doze ∧ s.power.napDue = true ∧ s.power.restarting = false then
    let s1 := if s.power.release = none then requestReleaseNap s else s
    if napReady s1 then enterNap s1 else s1
  else s

/-! ## Departure (R178, R179) -/

/-- R179: the drain begins. Waiting records end DROPPED if the rails are in FAULT, before the release request (R91). -/
def beginDrain (s : State) : State :=
  let s1 := powerSet { s.power with state := .departing .drain, graceTimer := none } s
  let s2 := if s1.rail.state = .fault then dropWaiting s1 else s1
  recompute false (discardChunk (emptyTurns (requestReleaseDeep s2)))

/-- The DEPARTURE entry of the departure as it stands (R178, R181). -/
def departureEntry (p : DepartPhase) (s : State) : State :=
  produce .power (.departure s.power.reason p s.power.grace s.power.battery) 0 s

/-- R178: the values of a departure that begins. The reason stays as it is after the departure (log 40). -/
def departing (reason : DepartReason) (phase : DepartPhase) (p : Power) (now : Time) : Power :=
  { p with
    state := .departing phase
    reason := reason
    napTimer := none
    deepTimer := none
    napDue := false
    release := none
    graceTimer := if phase = .grace then some (now + BitVec.ofNat 32 (p.grace * 1000)) else none
    graceBegan := if phase = .grace then now else p.graceBegan }

/-- R178: a departure begins, in ACTIVE, DOZE or NAP. NAP is left first, which brings the power cap to 1000 (R138, R176); a
departure without a grace then enters its drain. -/
def beginDeparture (reason : DepartReason) (wake : WakeCause) (s : State) : State :=
  let phase : DepartPhase := if reason = .request ∨ s.power.grace = 0 then .drain else .grace
  let s1 := if s.power.state = .nap then leaveNap (.departing .grace) wake s else s
  let s2 := departureEntry phase (powerSet (departing reason phase s1.power s1.time) s1)
  if phase = .drain then beginDrain s2 else s2

/-- R178: an upstream transaction cancels a departure with reason TIMER in its grace. -/
def cancelDeparture (s : State) : State :=
  let p := s.power
  let s1 := powerSet ({ p with state := .active, graceTimer := none }.startTimers s.time) s
  produce .power (.departureCancelled .timer p.graceBegan) 0 s1

/-- R173, R175, R176, R178: an upstream transaction is taken by the link port. While a RESTART waits the power controller
makes no transition (R183). -/
def upstreamTransaction (s : State) : State :=
  let s1 := reportActivity s
  if s.power.restarting then s1
  else
    match s.power.state with
    | .doze => powerSet { s1.power with state := .active } s1
    | .nap => leaveNap .active .transaction s1
    | .departing .grace => if s.power.reason = .timer then cancelDeparture s1 else s1
    | .init | .active | .departing .drain | .deep => s1

/-! ## Battery state (R177) -/

/-- R177: the battery state a watch action asks for, none where it asks for no change. -/
def batteryAfter (b : Battery) (a : WatchAction) : Option Battery :=
  match a, b with
  | .battNormal, .low => some .normal
  | .battLow, .normal => some .low
  | .battCritical, .normal => some .critical
  | .battCritical, .low => some .critical
  | .battNormal, .normal => none
  | .battNormal, .critical => none
  | .battLow, .low => none
  | .battLow, .critical => none
  | .battCritical, .critical => none
  | .none, _ => none
  | .coldOn, _ => none
  | .coldOff, _ => none

/-- R177: the battery state changes. -/
def changeBattery (b : Battery) (cause : BatteryCause) (s : State) : State :=
  let s1 := powerSet { s.power with battery := b } s
  recompute false (produce .power (.battery s.power.battery b cause) 0 s1)

/-- R177, R178: what CRITICAL does to the departure. While a RESTART waits no transition is made (log 21). -/
def criticalDeparture (s : State) : State :=
  if s.power.restarting then s
  else
    match s.power.state with
    | .active | .doze | .nap => beginDeparture .critical .watch s
    | .departing p => if s.power.reason = .critical then s
                      else departureEntry p (powerSet { s.power with reason := .critical } s)
    | .init | .deep => s

/-- R177: a battery action of a watch. -/
def batteryAction (a : WatchAction) (index : Fin 8) (s : State) : State :=
  match batteryAfter s.power.battery a with
  | none => s
  | some b =>
    let s1 := changeBattery b (.watch index) s
    if b = .critical then criticalDeparture s1 else s1

/-! ## DEEP and the wake (R179, R180) -/

/-- R179: the drain's conditions. -/
def drainDone (s : State) : Bool :=
  !queueBusy s && decide (s.rail.state = .off) && decide (s.wave.setState ≠ .loading)
  && s.request.fifo.isEmpty && s.request.inHand.isNone && decide (s.link.phase = .idle)

/-- R179: DEEP is entered, and every neighbour takes it in the same event. -/
def enterDeep (s : State) : State :=
  let s1 := powerSet { s.power with
    state := .deep, release := none, napTimer := none, deepTimer := none, graceTimer := none, deepEntered := s.time } s
  let s2 := s1.setLink { s1.link with phase := .off }
  recompute false (stopLight (askRetention (emptyTurns (deepIntake (stopInput (stopSampler s2))))))

/-- R179: a drain that is complete ends in DEEP. -/
def drainStep (s : State) : State :=
  if s.power.state = .departing .drain ∧ s.power.restarting = false ∧ drainDone s = true then enterDeep s else s

/-- R153: at the wake every EDGE watch becomes UNSET. -/
def wakeWatch (w : Watch) : Watch := if w.mode = .edge then { w with last := .unset } else w

def wakeWatches (s : State) : State :=
  let w := s.watches
  let w1 : Vector Watch 8 := #v[wakeWatch w[0], wakeWatch w[1], wakeWatch w[2], wakeWatch w[3], wakeWatch w[4],
    wakeWatch w[5], wakeWatch w[6], wakeWatch w[7]]
  if w1 = w then s else changeRecord .samples (s.setWatches w1)

/-- R180: the wake from DEEP at a POWER press edge. -/
def wakeFromDeep (s : State) : State :=
  let before := s.power.battery
  let s1 := withdrawRetention s
  let s2 := powerSet ({ s1.power with state := .active, lastWake := .powerKey, napDue := false }.startTimers s.time) s1
  let s3 := produce .power (.wake s.power.deepEntered) 0 s2
  let s4 := if before = .normal then s3 else changeBattery .normal .wake s3
  let s5 := s4.setLink { s4.link with phase := .idle }
  recompute false (resumeLight (wakeInput (wakeSampler (wakeWatches s5))))

/-! ## Timers (R173, R178) -/

/-- R173: the nap timer expires. -/
def napExpiry (s : State) : State :=
  if s.power.napTimer.isSome then
    s.setPower { s.power with napTimer := none, napDue := s.power.napDue || decide (s.power.state = .doze) }
  else s

/-- R173, R178: the deep timer expires. -/
def deepExpiry (s : State) : State :=
  if s.power.deepTimer.isSome then beginDeparture .timer s.power.lastWake (s.setPower { s.power with deepTimer := none })
  else s

/-- R178: the grace timer expires. -/
def graceExpiry (s : State) : State := if s.power.graceTimer.isSome then beginDrain s else s

/-! ## Requests and SLEEP-REQUEST (R174, R181) -/

/-- SET-TIMERS (R174). The power record changes when a setting does (R172). -/
def timersRequest (r : List Byte) (s : State) : State × Reply :=
  let nap := clampOrZero 500 600000 (argU32 r 4)
  let deep := clampOrZero 60 86400 (argU32 r 8)
  let grace := clamp 0 120 (argU8 r 12)
  let p := { s.power with napAfter := nap, deepAfter := deep, grace := grace }
  let q := match p.state with
    | .active | .doze => p.startTimers s.time
    | .init | .nap | .departing _ | .deep => p
  let same := nap = s.power.napAfter ∧ deep = s.power.deepAfter ∧ grace = s.power.grace
  (if same then s.setPower q else powerSet q s,
   doneClamped (decide (nap ≠ argU32 r 4 ∨ deep ≠ argU32 r 8 ∨ grace ≠ argU8 r 12)))

/-- SET-POWER ACTIVE (R181); a value outside the list is refused (log 12). No request is dispatched in INIT, NAP or
DEEP (log 25). -/
def powerActiveRequest (r : List Byte) (s : State) : State × Reply :=
  if argU8 r 4 ≠ 0 then (s, .refused .badArg)
  else match s.power.state with
  | .active => (s, doneNothing)
  | .doze => (powerSet { s.power with state := .active, release := none, napDue := false } s, .done {} 0#32)
  | .departing _ | .init | .nap | .deep => (s, .refused .state)

/-- SET-POWER DOZE (R175, R181). -/
def powerDozeRequest (s : State) : State × Reply :=
  match s.power.state with
  | .active =>
    (powerSet { s.power with state := .doze, napDue := false, napTimer := timerAt s.time s.power.napAfter } s,
     .done {} 0#32)
  | .doze => (s, doneNothing)
  | .departing _ | .init | .nap | .deep => (s, .refused .state)

/-- SET-POWER DEEP (R178, R181). -/
def powerDeepRequest (s : State) : State × Reply :=
  match s.power.state with
  | .active | .doze => (beginDeparture .request s.power.lastWake s, .done {} 0#32)
  | .departing .grace => (beginDrain s, .done {} 0#32)
  | .departing .drain => (s, doneNothing)
  | .init | .nap | .deep => (s, .refused .state)

/-- R181: a SLEEP-REQUEST action produces its entry and changes nothing else. -/
def sleepRequest (g : Gesture) (s : State) : State := produce .power (.sleepRequest g s.power.state) 0 s

end Sys2Proof.Machine
end

