-- ==== Sys2Proof/Machine/Watch.lean ====
section
/-! DEFINITION. The watch unit (9.4): evaluation, acts, and LOAD-TABLE WATCHES. The entries' values at the wake are in
Machine/Power.lean. -/

namespace Sys2Proof.Machine

/-- A watch entry changes, and the watch part of the samples record with it (R148). -/
def changeWatch (i : Fin 8) (w : Watch) (s : State) : State :=
  if w = s.watches[i] then s else changeRecord .samples (s.setWatches (s.watches.set i w))

/-- R150: the distance from the origin, folded modulo 2^n when the period bits are above 0. -/
def Watch.distance (w : Watch) (v : Int) : Int :=
  if w.periodBits = 0 then v - w.origin else (v - w.origin) % (2 ^ w.periodBits : Nat)

/-- R150: the result of a value. -/
def Watch.test (w : Watch) (v : Int) : Bool :=
  let d := w.distance v
  decide (0 ≤ d) && if w.strict then decide (d < w.margin) else decide (d ≤ w.margin)

def lastOfResult (r : Bool) : WatchLast := if r then .true else .false

/-- R151: the entry after an evaluation with a result, and whether it acts. A TRUE result sets the latch (R150). -/
def Watch.evaluate (w : Watch) (v : Int) (r : Bool) : Watch × Bool :=
  let w1 := if r then { w with latch := v } else w
  match w.mode with
  | .off => (w, false)
  | .once => ({ w1 with last := lastOfResult r, mode := .off }, true)
  | .edge => ({ w1 with last := lastOfResult r }, decide (w.last ≠ .unset) && decide (w.last ≠ lastOfResult r))
  | .every => ({ w1 with last := lastOfResult r }, true)

/-- R152, step 3: an action is handed to its receiver. -/
def watchAction (a : WatchAction) (i : Fin 8) (s : State) : State :=
  match a with
  | .none => s
  | .battNormal | .battLow | .battCritical => batteryAction a i s
  | .coldOn => setColdLock true s
  | .coldOff => setColdLock false s

/-- R152: a watch acts with a branch, on a value. The NAP of step 4 is the one the event found. -/
def actWatch (i : Fin 8) (r : Bool) (v : Int) (s : State) : State :=
  let w := s.watches[i]
  let a := if r then w.onTrue else w.onFalse
  let s1 := changeWatch i { w with acts := w.acts + 1#16 } s
  let s2 := if w.report then produce .watch (.watch i w.event r a v) (w.acts + 1#16).toNat s1 else s1
  let s3 := watchAction a i s2
  if a ≠ .none then wakeFromNap .watch s3 else s3

/-- R150, R151: one watch meets an event. -/
def evaluateWatch (e : WatchEvent) (v : Int) (s : State) (i : Fin 8) : State :=
  let w := s.watches[i]
  if w.mode = .off ∨ w.event ≠ e then s
  else
    let r := w.test v
    let x := w.evaluate v r
    let s1 := changeWatch i x.1 s
    if x.2 then actWatch i r v s1 else s1

/-- R150: an event reaches the watch unit; the watches are taken in index order. -/
def watchEvent (e : WatchEvent) (v : Int) (s : State) : State := watchIds.foldl (evaluateWatch e v) s

/-! ## LOAD-TABLE WATCHES (R149) -/

/-- The entry at place `n` of a WATCHES page (12.1), none where an event, a mode or an action is outside its list. -/
def watchOf (page : List Byte) (n : Nat) : Option Watch :=
  let o := 16 * n
  match WatchEvent.ofCode (argU8 page o), WatchMode.ofCode (argU8 page (o + 1)),
    WatchAction.ofCode (argU8 page (o + 2)), WatchAction.ofCode (argU8 page (o + 3)) with
  | some e, some m, some t, some f =>
    some { event := e, mode := m, onTrue := t, onFalse := f, origin := signedOf 32 (argU32 page (o + 4)),
           margin := argU32 page (o + 8), periodBits := min 31 (argU8 page (o + 12)),
           strict := argU8 page (o + 13) % 2 = 1, report := argU8 page (o + 13) / 2 % 2 = 1,
           latch := 0, last := .unset, acts := 0#16 }
  | _, _, _, _ => none

/-- LOAD-TABLE WATCHES with the page's contents (R149). -/
def loadWatches (page : List Byte) (s : State) : State × Reply :=
  match watchOf page 0, watchOf page 1, watchOf page 2, watchOf page 3, watchOf page 4, watchOf page 5, watchOf page 6,
    watchOf page 7 with
  | some w0, some w1, some w2, some w3, some w4, some w5, some w6, some w7 =>
    (changeRecord .samples (s.setWatches #v[w0, w1, w2, w3, w4, w5, w6, w7]),
     doneClamped ((List.range 8).any fun n => decide (31 < argU8 page (16 * n + 12))))
  | _, _, _, _, _, _, _, _ => (s, .refused .badTable)

end Sys2Proof.Machine
end

