-- ==== Sys2Proof/Machine/Conversion.lean ====
section
/-! DEFINITION. A conversion completes (R143, R144): the channel's last sample, then what is handed to the drive engine,
the light unit and the watch unit, in that order (log 9). -/

namespace Sys2Proof.Machine

/-- R67: the drive engine's THERM demand completes: every lane in WAIT-TEMP goes on, with the temperature or the fault. -/
def driveDemandDone (s : State) : State := endWaitTemp s

/-- R125: an AMB completion makes a recompute when follow is ON. -/
def ambientDone (s : State) : State := if s.light.follow then recompute false s else s

def channelEvent : Channel → WatchEvent | .batt => .batt | .therm => .therm | .amb => .amb

/-- R143: the conversion in progress completes with a code. -/
def completeConversion (code : Nat) (s : State) : State :=
  match s.sampler.converter with
  | .idle | .stopped => s
  | .converting c k _ _ =>
    let v := convValue s.sampler c code
    let s1 := changeSamples (s.sampler.completed c code s.time) s
    let s2 := if k = .driveDemand then driveDemandDone s1 else s1
    let s3 := if c = .amb then ambientDone s2 else s2
    match v with
    | some x => watchEvent (channelEvent c) x s3
    | none => s3

end Sys2Proof.Machine
end

