-- ==== Sys2Proof/Machine/Gesture.lean ====
section
/-! DEFINITION. The input unit's events (chapter 7): key edges, gestures and their dispatch, ring phases, wheel counts. -/

namespace Sys2Proof.Machine

/-! ## Gestures (R107, R110, R111) -/

/-- R110: the action is handed to its receiver. -/
def handAction (a : KeyAction) (g : Gesture) (s : State) : State :=
  match a with
  | .none | .notify => s
  | .turnFwd => (takeTurn .forward .key s.time 0 s).2
  | .turnBack => (takeTurn .back .key s.time 0 s).2
  | .lightToggle | .lightUp | .lightDown => lightAction a s
  | .sleepRequest => sleepRequest g s

/-- R107: a gesture's down time, saturating in its entry (R111). -/
def downTime (x : KeyUnit) (now : Time) : Nat := min (timeSince now x.pressTime) 65535

/-- R110: a gesture is reported as activity; a mapped one produces its KEY entry and hands its action on. -/
def dispatchGesture (k : Key) (g : Gesture) (index : Nat) (s : State) : State :=
  let s1 := reportActivity s
  let x := s1.key k
  let a := s1.input.action k g
  if a = .none then s1
  else handAction a g (produce .input (.key k g a (downTime x s1.time) x.woke) index s1)

/-- R107: a press edge at the gesture machine; `woke` marks the press that woke the part from NAP (R112). The repeat index
returns to 0 here too (DESIGN CHOICE, log 35). -/
def pressEdge (k : Key) (woke : Bool) (s : State) : State :=
  let x := s.key k
  match x.gesture with
  | .released =>
    s.setKey k { x with gesture := .pressed, pressTime := s.time, woke := woke, repeatIndex := 0,
                        holdTimer := some (s.after s.input.hold) }
  | .pressed | .held | .wakeHeld => s

/-- R107: a release edge at the gesture machine. -/
def releaseEdge (k : Key) (s : State) : State :=
  let x := s.key k
  match x.gesture with
  | .pressed => dispatchGesture k .tap 0 (s.setKey k { x with gesture := .released, holdTimer := none })
  | .held => s.setKey k { x with gesture := .released, repeatTimer := none }
  | .wakeHeld => s.setKey k { x with gesture := .released }
  | .released => s

/-- R107: the hold timer of a key expires. -/
def holdExpires (k : Key) (s : State) : State :=
  let x := s.key k
  if x.gesture = .pressed ∧ x.holdTimer.isSome then
    dispatchGesture k .hold 0 (s.setKey k { x with
      gesture := .held
      holdTimer := none
      repeatIndex := 0
      repeatTimer := timerAt s.time s.input.repeatPeriod })
  else s

/-- R107: the repeat timer of a key expires; it starts again at P, unless P has become 0. -/
def repeatExpires (k : Key) (s : State) : State :=
  let x := s.key k
  if x.gesture = .held ∧ x.repeatTimer.isSome then
    let index := satInc 65535 x.repeatIndex
    dispatchGesture k .repeat index (s.setKey k { x with
      repeatIndex := index
      repeatTimer := timerAt s.time s.input.repeatPeriod })
  else s

/-! ## Key filters (R106, R112 to R114) -/

/-- R106: the raw level of a key changes. -/
def keyChange (k : Key) (down : Bool) (s : State) : State :=
  s.setKey k ((s.key k).rawChange (keyRuns s.power.state k) down (s.after s.input.debounce))

/-- R106, R112, R114: a debounced edge. In NAP it wakes the part first; in DEEP a press edge of POWER wakes it. -/
def keyEdge (k : Key) (down : Bool) (s : State) : State :=
  match s.power.state with
  | .deep => if down then wakeFromDeep s else s
  | .nap =>
    let s1 := wakeFromNap .key s
    if down then pressEdge k true s1 else releaseEdge k s1
  | .init | .active | .doze | .departing _ => if down then pressEdge k false s else releaseEdge k s

/-- R106: the debounce timer of a key expires: the raw level is accepted. -/
def debounceExpires (k : Key) (s : State) : State :=
  let x := s.key k
  if x.timer.isSome then keyEdge k x.raw (s.setKey k { x with debounced := x.raw, timer := none }) else s

/-! ## Ring phases and wheel counts (R116 to R120) -/

/-- R120: a count acts on the accumulator, and a wheel turn it makes is handed to the slot unit. The wheel record is
changed before the turn is handed over (DESIGN CHOICE, log 9). -/
def accumulateCount (c : Int) (s : State) : State :=
  let r := wheelTurn s.input.wheelStep s.input.accumulator c
  let s1 := s.setInput { s.input with accumulator := r.2 }
  match r.1 with
  | none => s1
  | some d => (takeTurn d .wheel s.time 0 (changeWheel s1)).2

/-- R119: one count: the position, the watches, activity and the wake from NAP, the accumulator (log 9). -/
def wheelCount (c : Int) (s : State) : State :=
  let s1 := s.setInput { s.input with position := s.input.position + BitVec.ofInt 32 c }
  let s2 := wakeFromNap .wheel (reportActivity (watchEvent .wheel s1.input.position.toInt s1))
  accumulateCount c s2

/-- R116: the decoder makes its comparison, at the end of an event at a phase filter. -/
def decodeRing (s : State) : State :=
  let r := s.input.decode
  let s1 := s.setInput r.2
  match r.1 with
  | .nothing | .skip => s1
  | .step c => if c = 0 then s1 else wheelCount c s1

/-- R116, R122: the raw level of a phase changes. In DEEP it is ignored; the pin's level is kept for the wake. -/
def phaseChange (p : Phase) (high : Bool) (s : State) : State :=
  let x := s.input.phase p
  if s.power.state = .deep then s.setInput (s.input.setPhase p { x with raw := high })
  else decodeRing (s.setInput (s.input.setPhase p
    (x.rawChange high s.input.phaseFilter (s.after s.input.phaseFilter))))

/-- R116: the filter of a phase accepts its raw level. -/
def phaseExpires (p : Phase) (s : State) : State :=
  let x := s.input.phase p
  if x.timer.isSome then decodeRing (s.setInput (s.input.setPhase p x.accept)) else s

end Sys2Proof.Machine
end

