-- ==== Sys2Proof/WellFormed.lean ====
section
/-! DEFINITION. Which commands are well formed: the ranges the spec gives an event's operands. An ill-formed
command names no event of the part; the machine leaves the state as it is on one (log 3). -/

namespace Sys2Proof

/-- R2: the header's length field counts 1..1024 words. -/
def headerLengthOk (words : Nat) : Bool := decide (1 ≤ words ∧ words ≤ 1024)

/-- R14: a part's burst is at most 2048 bytes, so a pin reset meets at most 2048 of them transferred. -/
def transferredOk (n : Nat) : Bool := decide (n ≤ 2048)

/-- R19: a record is 32 bytes, so one receipt carries 1..32 of them. -/
def receiptOk (bytes : List Byte) : Bool := decide (1 ≤ bytes.length ∧ bytes.length ≤ 32)

/-- A command whose operands lie in the ranges the spec gives its event. -/
def Instr.wf : Instr → Bool
  | .pinReset n => transferredOk n
  | .read _ words => headerLengthOk words
  | .write _ words => headerLengthOk words
  | .requestRecordReceive bytes => receiptOk bytes
  | .powerOnReset | .linkReset | .configRead _ | .configWrite _ _ | .discardedHeader => true
  | .hostWriteByte _ | .slotByteWrite _ | .intakeByteWrite _ => true
  | .consumerWordWrite _ | .noticeDoneWrite _ | .hostWordsOtherWrite _ | .noticeWordRead => true
  | .memoryBurstEnd | .memoryRetentionEntered | .memoryExitComplete => true
  | .requestBadCode | .setNotice | .loadTableLevels | .loadTableKeymap | .loadTableThermistor => true
  | .loadTableWatches | .mark | .turn | .jump | .cancelTurns | .loadWaveforms | .unloadWaveforms => true
  | .present | .cancel | .frameBoundary | .setPanel | .clearRailFault => true
  | .railGoodRise | .railGoodFall | .riseTimerExpiry | .railHoldTimerExpiry | .fallTimerExpiry => true
  | .faultCheckExpiry | .keyRawChange _ _ | .keyDebounceExpiry _ | .holdTimerExpiry _ => true
  | .repeatTimerExpiry _ | .ringPhaseChange _ _ | .phaseFilterExpiry _ | .setInput => true
  | .wheelSnapshot | .lightTick | .pwmFrameStart _ | .setLight | .setLightTuning => true
  | .channelDue _ | .conversionComplete _ | .setSampler | .sampleNow | .openDownload => true
  | .closeDownload | .setTimers | .setPowerActive | .setPowerDoze | .setPowerDeep | .restart => true
  | .napTimerExpiry | .deepTimerExpiry | .graceTimerExpiry => true

end Sys2Proof
end

