-- ==== Sys2Proof/Machine/Link.lean ====
section
/-! DEFINITION. The link port and the area decoder (1.1 to 1.4), and the report unit's share of the host-words page and the
notice word (R30, R34, R35). -/

namespace Sys2Proof.Machine

/-! ## The area map (R9, R10, R184) -/

/-- R184: the kind of a control page. -/
def pageArea (page : Nat) : Area :=
  if page = 1 then .request
  else if page = 2 then .hostWords
  else if 3 ≤ page ∧ page ≤ 6 then .settings
  else if page = 0 ∨ (7 ≤ page ∧ page ≤ 12) then .partWritten
  else .spare

/-- R9: the area of a byte address below 32 MiB. -/
def areaOf (a : Nat) : Area :=
  if a < Config.assemblyBase then .openArea
  else if a < Config.slotBase then .assembly
  else if a < Config.slotBase + Config.slotSize then .slot 0
  else if a < Config.slotBase + 2 * Config.slotSize then .slot 1
  else if a < Config.slotBase + 3 * Config.slotSize then .slot 2
  else if a < Config.mirrorBase then .slot 3
  else if a < Config.waveBase then .mirror
  else if a < Config.intakeBase then .waveform
  else if a < Config.controlBase then .intake
  else pageArea ((a - Config.controlBase) / Config.pageSize)

/-- R9: the waveform area's protection follows the set state. -/
def wavePasses : SetState → Bool
  | .unloaded | .failed => true
  | .loading | .loaded => false

/-- R9 to R11: what a written byte is counted under when it is dropped; none when it is passed. -/
def dropOf (s : State) (portionOk : Bool) (a : Nat) : Option DropKind :=
  match areaOf a with
  | .assembly => if s.intake.protects a then some .assembly else none
  | .mirror => some .mirror
  | .waveform => if wavePasses s.wave.setState then none else some .waveform
  | .request => if portionOk then none else some .malformed
  | .partWritten => some .control
  | .openArea | .slot _ | .intake | .hostWords | .settings | .spare => none

/-! ## Headers (R2, R5, R11) -/

/-- How many of the `len` bytes from `addr` lie in a region; no region it is asked of meets the wrap at 32 MiB. -/
def bytesWithin (addr len base size : Nat) : Nat := min (addr + len) (base + size) - max addr base

/-- R11: the request-window portion, if there is one, is well formed. -/
def portionWellFormed (addr len : Nat) : Bool :=
  let n := bytesWithin addr len Config.requestPage Config.pageSize
  decide (n = 0) || (decide (max addr Config.requestPage % 32 = 0) && decide (n % 32 = 0) && decide (n ≤ 512))

/-- R2: a transaction as its header states it. -/
def headerTxn (isWrite : Bool) (wordAddr : BitVec 24) (words : Nat) (retention : Bool) : Txn :=
  let addr := 2 * wordAddr.toNat
  { isWrite := isWrite, addr := addr, len := 2 * words, pos := 0, portionOk := portionWellFormed addr (2 * words),
    intakeJudged := false, retention := retention, partialRecord := [], dropped := [], firstDrop := none }

/-- R5: the INIT condition. -/
def holdInit (s : State) : Bool := decide (s.power.state = .init)

/-- R5: NAP with the memory port not SERVING, where Retention begins to apply. -/
def meetsRetention (s : State) : Bool := decide (s.power.state = .nap) && decide (s.port.retention ≠ .serving)

/-- R5: the transaction with its Retention condition examined: it begins to apply to a transaction that is held for any
cause when NAP is found with the port not SERVING, and only SERVING clears it (DEDUCED, log 14). -/
def examineRetention (t : Txn) (s : State) : Txn :=
  { t with retention := (t.retention || meetsRetention s) && decide (s.port.retention ≠ .serving) }

/-- R5: the Retention condition, as last examined (log 14). -/
def holdRetention (t : Txn) : Bool := t.retention

/-- R5: the Copy room condition. -/
def holdCopy (t : Txn) (s : State) : Bool :=
  let n := bytesWithin t.addr t.len Config.intakeBase Config.intakeSize
  t.isWrite && decide (1 ≤ n) && decide (Config.copyRoom - s.intake.fill < n)

/-- R5: the Request room condition. -/
def holdRequests (t : Txn) (s : State) : Bool :=
  let k := bytesWithin t.addr t.len Config.requestPage Config.pageSize / 32
  t.isWrite && t.portionOk && decide (Config.fifoPlaces - s.request.fifo.length < k)

def holds (t : Txn) (s : State) : Bool := holdInit s || holdRetention t || holdCopy t s || holdRequests t s

def setPhase (p : LinkPhase) (s : State) : State := s.setLink { s.link with phase := p }

/-- R5: a held transaction's conditions are examined; when none applies it goes to CLAIMING. One that is CLAIMING is not
held again (log 14). -/
def examineHolds (s : State) : State :=
  match s.link.phase with
  | .held t =>
    let t1 := examineRetention t s
    setPhase (if holds t1 s then .held t1 else .claiming t1) s
  | .idle | .claiming _ | .data _ | .off => s

/-- R2, R4, R6: a READ or WRITE header is taken in IDLE, and reported as one upstream transaction. Its Retention condition
is the one it meets before that report takes effect. -/
def takeHeader (isWrite : Bool) (wordAddr : BitVec 24) (words : Nat) (s : State) : State :=
  match s.link.phase with
  | .idle =>
    if headerLengthOk words then
      let t := headerTxn isWrite wordAddr words (meetsRetention s)
      let s1 := upstreamTransaction s
      examineHolds (s1.setLink { s1.link with
        phase := .held t
        sent := if isWrite then s1.link.sent else [] })
    else s
  | .held _ | .claiming _ | .data _ | .off => s

/-- R3: a configuration transaction, answered at once in IDLE. -/
def configTransaction (answer : Option Nat) (s : State) : State :=
  match s.link.phase with
  | .idle =>
    let s1 := upstreamTransaction s
    s1.setLink { s1.link with configAnswer := answer.getD s1.link.configAnswer }
  | .held _ | .claiming _ | .data _ | .off => s

/-! ## The end of a transaction (R4, R7, R13) -/

/-- R13: one count of the guard record rises. -/
def Guard.count (g : Guard) (k : DropKind) : Guard :=
  match k with
  | .assembly => { g with assembly := satInc 65535 g.assembly }
  | .mirror => { g with mirror := satInc 65535 g.mirror }
  | .waveform => { g with waveform := satInc 65535 g.waveform }
  | .control => { g with control := satInc 65535 g.control }
  | .malformed => { g with malformed := satInc 65535 g.malformed }

/-- R13: the guard record after a transaction's drops. -/
def Guard.after (g : Guard) (t : Txn) : Guard :=
  { t.dropped.foldl Guard.count g with lastDropped := t.firstDrop.getD g.lastDropped }

/-- R4, R7, R13: the transaction ends, by its last byte or by a link reset in its data phase: its drops are counted, the
link port is IDLE and the memory port frees. -/
def endTransaction (t : Txn) (s : State) : State :=
  let s1 := if t.dropped = [] then s else changeRecord .guard (s.setGuard (s.guard.after t))
  setPhase .idle (s1.setPort { s1.port with burst := none })

/-- The transaction goes on after bytes have passed, or ends with its last (R4). -/
def afterBytes (t : Txn) (s : State) : State := if t.pos < t.len then setPhase (.data t) s else endTransaction t s

/-- R7: a link reset. -/
def resetLink (s : State) : State :=
  match s.link.phase with
  | .idle | .off => s
  | .held _ | .claiming _ => setPhase .idle s
  | .data t => endTransaction t s

/-! ## Written bytes (R2, R9, R12) -/

/-- The address of the transaction's next byte (R2). -/
def Txn.here (t : Txn) : Nat := (t.addr + t.pos) % Config.memSize

/-- R13: a drop, remembered for the transaction's end. -/
def Txn.drop (t : Txn) (k : DropKind) (a : Nat) : Txn :=
  { t with
    dropped := if k ∈ t.dropped then t.dropped else t.dropped ++ [k]
    firstDrop := some (t.firstDrop.getD a) }

/-- R9: the next byte of a WRITE is passed to memory or dropped. -/
def forwardByte (b : Byte) (t : Txn) (s : State) : Txn × State :=
  let a := t.here
  let t1 := { t with pos := t.pos + 1 }
  match dropOf s t.portionOk a with
  | some k => (t1.drop k a, s)
  | none => (t1, s.setMem (writeByte s.mem a b))

/-- Several bytes, one after another. -/
def forwardBytes : List Byte → Txn → State → Txn × State
  | [], t, s => (t, s)
  | b :: bs, t, s =>
    let r := forwardByte b t s
    forwardBytes bs r.1 r.2

/-- The WRITE in its data phase whose next byte lies in an area of the kind asked for. -/
def dataWrite (s : State) (kind : Area → Bool) : Option Txn :=
  match s.link.phase with
  | .data t => if t.isWrite && decide (t.pos < t.len) && kind (areaOf t.here) then some t else none
  | .idle | .held _ | .claiming _ | .off => none

/-- The areas no block snoops (R9, R10), and the request window of a portion that is not well formed (R11). -/
def unsnooped (portionOk : Bool) : Area → Bool
  | .openArea | .assembly | .mirror | .waveform | .settings | .partWritten | .spare => true
  | .request => !portionOk
  | .slot _ | .intake | .hostWords => false

/-- HOST_WRITE_BYTE (R9). -/
def hostByte (b : Byte) (s : State) : State :=
  match s.link.phase with
  | .data t0 =>
    match dataWrite s (unsnooped t0.portionOk) with
    | some t =>
      let r := forwardByte b t s
      afterBytes r.1 r.2
    | none => s
  | .idle | .held _ | .claiming _ | .off => s

def isSlot : Area → Bool | .slot _ => true | _ => false

/-- The slot of a slot address. -/
def slotOf (a : Nat) : Fin 4 := match areaOf a with | .slot n => n | _ => 0

/-- SLOT_BYTE_WRITE (R12, R40, R41). -/
def slotWriteByte (b : Byte) (s : State) : State :=
  match dataWrite s isSlot with
  | some t =>
    let r := forwardByte b t s
    let n := slotOf t.here
    afterBytes r.1 (slotByte n (t.here - (Config.slotBase + n.val * Config.slotSize)) r.2)
  | none => s

/-- INTAKE_BYTE_WRITE (R12, R158). -/
def intakeWriteByte (b : Byte) (s : State) : State :=
  match dataWrite s (fun a => decide (a = .intake)) with
  | some t =>
    let r := forwardByte b t s
    let offset := t.here - Config.intakeBase
    let s1 := if t.intakeJudged then r.2 else judgeIntake offset r.2
    afterBytes { r.1 with intakeJudged := true } (feedIntake offset b s1)
  | none => s

/-- REQUEST_RECORD_RECEIVE (R12, R19): bytes of the record in arrival; it joins the FIFO with its 32nd byte. -/
def recordBytesArrive (bytes : List Byte) (s : State) : State :=
  match dataWrite s (fun a => decide (a = .request)) with
  | some t =>
    let record := t.partialRecord ++ bytes
    if t.portionOk ∧ bytes ≠ [] ∧ record.length ≤ 32 then
      let r := forwardBytes bytes t s
      if record.length = 32 then
        afterBytes { r.1 with partialRecord := [] }
          (r.2.setRequest { r.2.request with fifo := r.2.request.fifo ++ [record] })
      else afterBytes { r.1 with partialRecord := record } r.2
    else s
  | none => s

/-! ## The host-words page (R30, R35) -/

/-- R30: C after a consumer word. -/
def consume (r : Ring) (v : Word16) : Word16 :=
  let a := (v - r.consumed).toNat
  if a ≤ r.unread then v else if a ≤ 32768 then r.produced else r.consumed

/-- R30: a consumer word of a ring is taken. -/
def consumerWrite (i : RingId) (v : Word16) (s : State) : State :=
  recomputeNotice (s.setRing i { s.ring i with consumed := consume (s.ring i) v })

/-- R35: the source at the top of the stack is popped. -/
def popNotice (s : State) : State := recomputeNotice (s.setReport { s.report with stack := s.report.stack.tail })

/-- What a word of the host-words page is, by its offset (R184). -/
inductive HostWord | consumer (r : RingId) | noticeDone | other
deriving DecidableEq, Repr

def hostWordOf (offset : Nat) : HostWord :=
  if offset = Config.noticeDoneOffset then .noticeDone
  else if offset < 12 then (match RingId.ofId (offset / 2 + 1) with | some r => .consumer r | none => .other)
  else .other

/-- A word of the host-words page passes to memory, and acts if it is the word the command names. -/
def hostWordWrite (v : Word16) (act : HostWord → Option (State → State)) (s : State) : State :=
  match dataWrite s (fun a => decide (a = .hostWords)) with
  | some t =>
    match act (hostWordOf (t.here - Config.hostWordsPage)) with
    | some f =>
      let r := forwardBytes (leBytes 2 v.toNat) t s
      afterBytes r.1 (f r.2)
    | none => s
  | none => s

/-- CONSUMER_WORD_WRITE (R30). -/
def actConsumer (v : Word16) : HostWord → Option (State → State)
  | .consumer r => some (consumerWrite r v)
  | .noticeDone | .other => none

/-- NOTICE_DONE_WRITE (R35). -/
def actNoticeDone : HostWord → Option (State → State)
  | .noticeDone => some popNotice
  | .consumer _ | .other => none

/-- HOST_WORDS_OTHER_WRITE (R30): no effect on the part. -/
def actOther : HostWord → Option (State → State)
  | .other => some id
  | .consumer _ | .noticeDone => none

/-! ## Read bytes (R2, R12, R34) -/

/-- R34: a value of the notice word sent upstream. -/
def pushNotice (v : Nat) (s : State) : State :=
  match RingId.ofId v with
  | none => s
  | some i =>
    if !s.report.stack.contains i && aboveTop s.report.stack i then
      recomputeNotice (s.setReport { s.report with stack := i :: s.report.stack })
    else s

/-- R34: both bytes of the notice word lie in the transaction and have not been sent. -/
def noticeAhead (t : Txn) : Bool :=
  decide (t.addr + t.pos ≤ Config.noticeWordAddr) && decide (Config.noticeWordAddr + 2 ≤ t.addr + t.len)

/-- R2: a READ sends bytes up to a position; a notice word among them is acted on (R34). -/
def sendBytes (t : Txn) (upTo : Nat) (s : State) : State :=
  let bytes := readBytes s.mem (t.addr + t.pos) (upTo - t.pos)
  let s1 := s.setLink { s.link with sent := s.link.sent ++ bytes }
  if noticeAhead t && decide (Config.noticeWordAddr + 2 ≤ t.addr + upTo) then
    pushNotice (readValue s.mem Config.noticeWordAddr 2) s1
  else s1

/-- The READ in its data phase. -/
def dataRead (s : State) : Option Txn :=
  match s.link.phase with
  | .data t => if t.isWrite then none else some t
  | .idle | .held _ | .claiming _ | .off => none

/-- NOTICE_WORD_READ (R34): the READ in its data phase sends the bytes up to and with the notice word. -/
def noticeRead (s : State) : State :=
  match dataRead s with
  | some t =>
    if noticeAhead t then
      let upTo := Config.noticeWordAddr + 2 - t.addr
      afterBytes { t with pos := upTo } (sendBytes t upTo s)
    else s
  | none => s

/-- R2: the downstream burst of a READ ends: the bytes not yet sent are sent, and the transaction ends. -/
def endRead (s : State) : State :=
  match dataRead s with
  | some t => endTransaction t (sendBytes t t.len s)
  | none => s

end Sys2Proof.Machine
end

