-- ==== Sys2Proof/Machine/Requests.lean ====
section
/-! DEFINITION. The request unit (2.1 to 2.4): taking a record, replying, SET-NOTICE, LOAD-TABLE and RESTART's dispatch. -/

namespace Sys2Proof.Machine

/-! ## Taking and replying (R19 to R22) -/

/-- R20, R21: the record the unit takes next, if it is IDLE and the record is one this command dispatches. -/
def nextRequest (i : Instr) (s : State) : Option (List Byte) :=
  match s.request.inHand, s.request.fifo with
  | none, r :: _ => if dispatchOf r = i then some r else none
  | _, _ => none

/-- R20: the oldest record is taken: its place is free, the unit is BUSY, and the take is activity. -/
def takeRequest (s : State) : State :=
  reportActivity (s.setRequest { fifo := s.request.fifo.drop 1, inHand := s.request.fifo.head? })

/-- R22: the reply to the record in hand ends its handling; the unit is IDLE again. -/
def reply (x : Reply) (s : State) : State :=
  match s.request.inHand with
  | none => s
  | some r =>
    let s1 := produce .reply (.reply (BitVec.ofNat 8 (reqCode r)) (BitVec.ofNat 8 (argU8 r 1)) x) (reqTag r) s
    s1.setRequest { s1.request with inHand := none }

/-- R20 to R22: a request that its owner decides at dispatch. -/
def serveRequest (i : Instr) (owner : List Byte → State → State × Reply) (s : State) : State :=
  match nextRequest i s with
  | none => s
  | some r =>
    let x := owner r (takeRequest s)
    reply x.2 x.1

/-- R21: a code that names no request. -/
def badCodeRequest (s : State) : State × Reply := (s, .refused .badCode)

/-! ## SET-NOTICE (R32) -/

/-- R32: the enable flags of a set, bit r − 1 for source id r. -/
def enableRings (set : Nat) (r : Rings) : Rings :=
  { power := { r.power with enabled := set.testBit 0 }, input := { r.input with enabled := set.testBit 1 },
    display := { r.display with enabled := set.testBit 2 }, intake := { r.intake with enabled := set.testBit 3 },
    watch := { r.watch with enabled := set.testBit 4 }, reply := { r.reply with enabled := set.testBit 5 } }

/-- SET-NOTICE (R32). -/
def noticeRequest (r : List Byte) (s : State) : State × Reply :=
  if 64 ≤ argU8 r 4 then (s, .refused .badArg)
  else
    (recomputeNotice (s.setReport { s.report with rings := enableRings (argU8 r 4) s.report.rings }), .done {} 0#32)

/-! ## LOAD-TABLE (R25) -/

/-- The SETTINGS page of a table (R184). -/
def tablePage : TableId → Nat
  | .levels => Config.pageBase 3
  | .keymap => Config.pageBase 4
  | .thermistor => Config.pageBase 5
  | .watches => Config.pageBase 6

/-- R25: LOAD-TABLE at dispatch: an id of no table is refused, otherwise the page's read is asked for and the unit stays
BUSY. A read asked for outside SERVING waits for the port to return to it. -/
def serveLoadTable (i : Instr) (s : State) : State :=
  match nextRequest i s with
  | none => s
  | some r =>
    let s1 := takeRequest s
    match tableOfCode (argU8 r 4) with
    | none => reply (.refused .badArg) s1
    | some t => s1.setPort { s1.port with queue := s1.port.queue ++ [.tableRead t (decide (s1.port.retention ≠ .serving))] }

/-- R25: the table's owner takes the page's contents. The tables lie in the page's first 128 bytes (12.1). -/
def loadPage (t : TableId) (page : List Byte) (s : State) : State × Reply :=
  match t with
  | .levels => loadLevels page s
  | .keymap => loadKeymap page s
  | .thermistor => loadThermistor page s
  | .watches => loadWatches page s

/-- R25: the page's read is granted: the owner decides, and the reply is produced. -/
def tableReadGranted (t : TableId) (s : State) : State :=
  let x := loadPage t (readBytes s.mem (tablePage t) 128) s
  reply x.2 x.1

/-! ## RESTART (R92, R183) -/

/-- RESTART at dispatch: timers stop, waiting records end DROPPED, and the restart waits for its lanes. The reply comes
when INIT ends (R27). The light's outputs go low at the restart proper, not here (DESIGN CHOICE, log 48). -/
def serveRestart (i : Instr) (s : State) : State :=
  match nextRequest i s with
  | none => s
  | some _ =>
    let s1 := takeRequest s
    dropWaiting (s1.setPower { s1.power with
      restarting := true, napTimer := none, deepTimer := none, graceTimer := none })

end Sys2Proof.Machine
end

