-- ==== Sys2Proof/Machine/Reset.lean ====
section
/-! DEFINITION. The resets as a whole (R18, R105, R182, R183), and the end of INIT. The link reset is in
Machine/Link.lean. -/

namespace Sys2Proof.Machine

/-- R182: every block at its chapter's reset value, at a part time and over a memory. The input pins keep their levels
(log 5). -/
def freshState (time : Time) (mem : Memory) (s : State) : State :=
  { State.reset with
    pending := s.pending
    time := time
    mem := mem
    rail := .reset s.rail.good
    input := .reset s.input.keys.fwd.raw s.input.keys.back.raw s.input.keys.power.raw s.input.keys.light.raw
      s.input.phaseA.raw s.input.phaseB.raw time
    light := .reset time
    power := .reset time }

/-- POWER_ON_RESET (R182): the memory's contents are undefined (log 4). -/
def resetPowerOn (s : State) : State := freshState 0#32 [] s

/-- R18: the bytes a part's write burst in progress has written, of which a number have been transferred. -/
def partialBurst (transferred : Nat) (s : State) : Memory :=
  match s.port.burst with
  | some b => writeCells s.mem (b.writes.take transferred)
  | none => s.mem

/-- PIN_RESET (R18, R182): the memory is kept; a memory in retention is brought out of it (log 15). -/
def resetPin (transferred : Nat) (s : State) : State :=
  if transferredOk transferred then freshState 0#32 (partialBurst transferred s) s else s

/-- R183: the restart proper. Part time keeps running, the link port and a running burst are left as they are, and the
request unit keeps the RESTART in hand. The light's outputs go low here (R138; DESIGN CHOICE, log 48). -/
def restartProper (s : State) : State :=
  let f := freshState s.time s.mem s
  { f with
    link := s.link
    port := { f.port with burst := s.port.burst, retention := s.port.retention }
    request := { fifo := [], inHand := s.request.inHand } }

/-- R183: a waiting RESTART goes on when no lane is active. -/
def restartStep (s : State) : State := if s.power.restarting ∧ activeCount s = 0 then restartProper s else s

/-- R182, R27: INIT ends: ACTIVE, the nap and deep timers start, and a RESTART in hand is replied to. -/
def endInit (s : State) : State :=
  reply (.done {} 0#32) (powerSet ({ s.power with state := .active }.startTimers s.time) s)

end Sys2Proof.Machine
end

