-- ==== Sys2Proof/Machine/Port.lean ====
section
/-! DEFINITION. The memory port (1.5): the claims that wait, the arbiter's decision, what each grant and each burst's end
does, and retention's events. -/

namespace Sys2Proof.Machine

/-! ## Claims and the decision (R14, R15) -/

/-- R14: a claim of a class waits. -/
def claimWaits (s : State) (c : Nat) : Bool :=
  match c with
  | 1 => s.drive.claim1.isSome
  | 2 => decide (s.intake.claim = some 2)
  | 3 => (match s.link.phase with
    | .claiming _ => true
    | .idle | .held _ | .data _ | .off => false)
  | 4 => decide (s.intake.claim = some 4)
  | 5 => s.drive.claim5.isSome || s.wave.load.isSome
  | 6 => s.port.recordClaim
  | _ => false

/-- The lowest-numbered waiting class of 1..3 and of 4..6. -/
def highClaim (s : State) : Option Nat := [1, 2, 3].find? (claimWaits s)
def lowClaim (s : State) : Option Nat := [4, 5, 6].find? (claimWaits s)

/-- R15: the class granted and the starvation count after it. -/
def arbitrate (s : State) : Option (Nat × Nat) :=
  match lowClaim s, highClaim s with
  | some l, some h => if s.port.starvation = 16 then some (l, 0) else some (h, s.port.starvation + 1)
  | some l, none => some (l, 0)
  | none, some h => some (h, 0)
  | none, none => none

/-! ## Grants (R14, R16) -/

def startBurst (k : BurstKind) (writes : List Host.Cell) (s : State) : State :=
  s.setPort { s.port with burst := some ⟨k, writes⟩ }

/-- R16, R18: a granted record write; the last of INIT's ends INIT. -/
def writeGranted (r : RecordId) (s : State) : State :=
  let s1 := match r with
    | .entryPlace i place => grantEntry i place s
    | .identity | .guard | .power | .slotTable | .display | .laneTable | .light | .samples | .wheel | .intake
    | .downloads | .chunkMap _ _ | .ringHeader _ | .noticeWord => s
  if s1.power.state = .init then
    let s2 := s1.setPort { s1.port with initLeft := s1.port.initLeft - 1 }
    if s2.port.initLeft = 0 then endInit s2 else s2
  else s1

/-- Class 6 (R16): the head of the record-write queue. A write carries the record as its block holds it now. -/
def grantRecord (s : State) : State :=
  match s.port.queue with
  | [] => s
  | .write r :: rest =>
    let cells := recordCells s r
    writeGranted r (startBurst .recordWrite cells (s.setPort { s.port with queue := rest }))
  | .tableRead t _ :: rest => tableReadGranted t (startBurst .tableRead [] (s.setPort { s.port with queue := rest }))

/-- Class 5 (R83): a latch burst of a lane. -/
def grantLatch (i : Fin 16) (s : State) : State :=
  let s1 := s.setDrive { s.drive with claim5 := none, lastLatch := i }
  match s1.lane i with
  | none => s1
  | some l =>
    match l.step with
    | .needRead | .reading => startBurst (.latchRead i) [] (s1.setLane i (some { l with step := .reading }))
    | .needWrite bytes =>
      let next := { l with tile := l.tile + 1, step := .needRead }
      let s2 := startBurst .latchWrite bytes s1
      if l.upd.rect.places.length ≤ l.tile + 1 then
        changeRecord .laneTable (s2.setLane i (some { next with state := .waitRails, fetched := 0 }))
      else s2.setLane i (some next)

/-- Class 1 (R85, R86): a frame read of a lane, or a row of its completion writes, the last of which ends the record. -/
def grantFrame (i : Fin 16) (s : State) : State :=
  let s1 := s.setDrive { s.drive with claim1 := none }
  match s1.lane i with
  | none => s1
  | some l =>
    let next := { l with fetched := l.fetched + 1 }
    if l.completing then
      let s2 := startBurst .completion (completionCells s1.mem s1.drive.settings l.upd.rect l.fetched) s1
      if pixelRows s1.drive.settings l.upd.rect ≤ l.fetched + 1 then completeLane i next s2
      else s2.setLane i (some next)
    else startBurst (.frameRead i) [] (s1.setLane i (some next))

/-- Classes 2 and 4 (R165): a copy. -/
def grantIntake (s : State) : State :=
  let r := grantCopy s
  startBurst .copy r.1 r.2

/-- Class 3 (R4): the transaction's data phase begins. -/
def grantLink (s : State) : State :=
  match s.link.phase with
  | .claiming t => startBurst .passThrough [] (setPhase (.data t) s)
  | .idle | .held _ | .data _ | .off => s

/-- Class 5: the load's next read while a set is loading, otherwise the drive engine's latch claim. -/
def grantLow (s : State) : State :=
  if s.wave.load.isSome then startBurst .waveRead [] s
  else match s.drive.claim5 with
    | some i => grantLatch i s
    | none => s

def grantHigh (s : State) : State :=
  match s.drive.claim1 with
  | some i => grantFrame i s
  | none => s

/-- A claim of a class is granted. -/
def grant (c : Nat) (s : State) : State :=
  match c with
  | 1 => grantHigh s
  | 2 | 4 => grantIntake s
  | 3 => grantLink s
  | 5 => grantLow s
  | 6 => grantRecord s
  | _ => s

/-- R15, R17: the port grants while it is free, in SERVING and in ENTERING. -/
def portDecides (s : State) : Bool :=
  s.port.burst.isNone && decide (s.port.retention = .serving ∨ s.port.retention = .entering)

/-- R15: one decision of the arbiter. -/
def decideStep (s : State) : State :=
  if portDecides s then
    match arbitrate s with
    | some (c, n) => grant c (s.setPort { s.port with starvation := n })
    | none => s
  else s

/-! ## The end of a burst (R15) -/

/-- A burst of the part ends: its bytes are in memory and the port frees (log 10). -/
def landBurst (b : Burst) (s : State) : State :=
  let s1 := s.setPort { s.port with burst := none }
  s1.setMem (writeCells s1.mem b.writes)

/-- MEMORY_BURST_END: the burst in progress ends. A host's WRITE ends with its last byte instead (log 13). -/
def burstEnds (s : State) : State :=
  match s.port.burst with
  | none => s
  | some b =>
    match b.kind with
    | .passThrough => endRead s
    | .recordWrite | .tableRead | .latchWrite | .frameRead _ | .completion => landBurst b s
    | .copy => endCopy (landBurst b s)
    | .latchRead i => latchReadEnd i (landBurst b s)
    | .waveRead => loadBurstEnd (landBurst b s)

/-! ## Retention (R17) -/

/-- R17: no claim waits and no burst runs. -/
def portIdle (s : State) : Bool := s.port.burst.isNone && (arbitrate s).isNone

/-- MEMORY_RETENTION_ENTERED. -/
def retentionEntered (s : State) : State :=
  if s.port.retention = .entering ∧ portIdle s = true then s.setPort { s.port with retention := .retained } else s

/-- The power controller asks for retention (R172). -/
def wantsRetention (s : State) : Bool := decide (s.power.state = .nap ∨ s.power.state = .deep)

/-- MEMORY_EXIT_COMPLETE. -/
def exitCompleted (s : State) : State :=
  match s.port.retention with
  | .leaving => s.setPort (if wantsRetention s then { s.port with retention := .entering } else s.port.serve)
  | .serving | .entering | .retained => s

end Sys2Proof.Machine
end

