-- ==== Sys2Proof/Machine/Settle.lean ====
section
/-! DEFINITION. What the end of every command does (log 8): the tests and choices the blocks make "whenever" their
conditions change, and the arbiter's decision; and what the step on an empty queue does (log 1). -/

namespace Sys2Proof.Machine

/-- The blocks' own decisions: a waiting RESTART (R183), the start rule (R79), the converter's choice (R142), the nap
condition (R175), the drain (R179), the link's holds (R5), the drive engine's claims (R83, R85). -/
def settle (s : State) : State :=
  placeClaims (examineHolds (drainStep (napStep (chooseConversion (startRule (restartStep s))))))

/-- The end of a command: the blocks decide, the arbiter grants at a free port (R15), and the blocks take what the grant
changed. -/
def finish (s : State) : State := settle (decideStep (settle s))

/-! ## Time (log 1, log 2) -/

/-- A timer that has reached the part time. -/
def dueNow (t : Option Time) (now : Time) : Bool := decide (t = some now)

def whenDue (t : Option Time) (now : Time) (i : Instr) : List Instr := if dueNow t now then [i] else []

def keyDue (k : Key) (x : KeyUnit) (now : Time) : List Instr :=
  whenDue x.timer now (.keyDebounceExpiry k) ++ whenDue x.holdTimer now (.holdTimerExpiry k)
  ++ whenDue x.repeatTimer now (.repeatTimerExpiry k)

/-- The expiry of the rail sequencer's timer, by the state it runs in (R96). -/
def railDue (r : Rail) (now : Time) : List Instr :=
  match r.state with
  | .rising => whenDue r.timer now .riseTimerExpiry
  | .hold => whenDue r.timer now .railHoldTimerExpiry
  | .falling => whenDue r.timer now .fallTimerExpiry
  | .fault => whenDue r.timer now .faultCheckExpiry
  | .off | .on => []

/-- The commands that fall due at the part time. The power controller's timers come first and the channels before the
keys, so that nothing that restarts a timer stands before that timer's expiry (R173: the expiry is taken first; log 1). The light ticks
at part-time values divisible by 10, also across part time's wrap (R131; DESIGN CHOICE, log 46). -/
def dueCommands (s : State) : List Instr :=
  let now := s.time
  whenDue s.power.graceTimer now .graceTimerExpiry ++ whenDue s.power.deepTimer now .deepTimerExpiry
  ++ whenDue s.power.napTimer now .napTimerExpiry
  ++ whenDue s.sampler.chans.batt.nextDue now (.channelDue .batt)
  ++ whenDue s.sampler.chans.therm.nextDue now (.channelDue .therm)
  ++ whenDue s.sampler.chans.amb.nextDue now (.channelDue .amb)
  ++ railDue s.rail now
  ++ (if s.light.running && decide (now.toNat % 10 = 0) then [.lightTick] else [])
  ++ whenDue s.input.phaseA.timer now (.phaseFilterExpiry .a) ++ whenDue s.input.phaseB.timer now (.phaseFilterExpiry .b)
  ++ keyDue .fwd s.input.keys.fwd now ++ keyDue .back s.input.keys.back now ++ keyDue .power s.input.keys.power now
  ++ keyDue .light s.input.keys.light now

/-- One millisecond of part time passes, and what falls due joins the queue. -/
def tick (s : State) : State :=
  let s1 := s.setTime (s.time + 1#32)
  s1.setPending (dueCommands s1)

/-- The step on an empty queue: a request that waits is dispatched (R20); otherwise a millisecond passes. -/
def idle (s : State) : State :=
  match s.request.inHand, s.request.fifo with
  | none, r :: _ => s.setPending [dispatchOf r]
  | _, _ => tick s

end Sys2Proof.Machine
end

