-- ==== Sys2Proof/Machine/CmdDisplay.lean ====
section
/-! DEFINITION. The meanings of requests and events of the waveform unit, the update queue, the drive engine and the rails:
the command's effect, then what ends every command (log 8). -/

namespace Sys2Proof.Machine

/-- loadWaveforms (R61). -/
def execLoadWaveforms (s : State) : Host.Outcome State Fault Refusal :=
  .next (finish (serveRequest .loadWaveforms loadWaveformsRequest s))

/-- unloadWaveforms (R64). -/
def execUnloadWaveforms (s : State) : Host.Outcome State Fault Refusal :=
  .next (finish (serveRequest .unloadWaveforms unloadWaveformsRequest s))

/-- present (R74). -/
def execPresent (s : State) : Host.Outcome State Fault Refusal :=
  .next (finish (serveRequest .present presentRequest s))

/-- cancel (R78). -/
def execCancel (s : State) : Host.Outcome State Fault Refusal :=
  .next (finish (serveRequest .cancel cancelRequest s))

/-- frameBoundary (R85, R99). -/
def execFrameBoundary (s : State) : Host.Outcome State Fault Refusal :=
  .next (finish (boundary s))

/-- setPanel (R95). -/
def execSetPanel (s : State) : Host.Outcome State Fault Refusal :=
  .next (finish (serveRequest .setPanel panelRequest s))

/-- clearRailFault (R104). -/
def execClearRailFault (s : State) : Host.Outcome State Fault Refusal :=
  .next (finish (serveRequest .clearRailFault (fun _ => clearRailFaultRequest) s))

/-- railGoodRise (R98, R103). -/
def execRailGoodRise (s : State) : Host.Outcome State Fault Refusal :=
  .next (finish (goodRises s))

/-- railGoodFall (R101, R102, R103). -/
def execRailGoodFall (s : State) : Host.Outcome State Fault Refusal :=
  .next (finish (goodFalls s))

/-- riseTimerExpiry (R98). -/
def execRiseTimerExpiry (s : State) : Host.Outcome State Fault Refusal :=
  .next (finish (riseExpires s))

/-- railHoldTimerExpiry (R100). -/
def execRailHoldTimerExpiry (s : State) : Host.Outcome State Fault Refusal :=
  .next (finish (railHoldExpires s))

/-- fallTimerExpiry (R101). -/
def execFallTimerExpiry (s : State) : Host.Outcome State Fault Refusal :=
  .next (finish (fallExpires s))

/-- faultCheckExpiry (R103). -/
def execFaultCheckExpiry (s : State) : Host.Outcome State Fault Refusal :=
  .next (finish (checkExpires s))

end Sys2Proof.Machine
end

