-- ==== Sys2Proof/Machine/CmdDownload.lean ====
section
/-! DEFINITION. The meanings of requests of the intake unit:
the command's effect, then what ends every command (log 8). -/

namespace Sys2Proof.Machine

/-- openDownload (R155). -/
def execOpenDownload (s : State) : Host.Outcome State Fault Refusal :=
  .next (finish (serveRequest .openDownload openRequest s))

/-- closeDownload (R156). -/
def execCloseDownload (s : State) : Host.Outcome State Fault Refusal :=
  .next (finish (serveRequest .closeDownload closeRequest s))

end Sys2Proof.Machine
end

