-- ==== Sys2Proof/Machine/CmdInput.lean ====
section
/-! DEFINITION. The meanings of keys, scroll ring and the input unit's requests:
the command's effect, then what ends every command (log 8). -/

namespace Sys2Proof.Machine

/-- keyRawChange (R106). -/
def execKeyRawChange (k : Key) (down : Bool) (s : State) : Host.Outcome State Fault Refusal :=
  .next (finish (keyChange k down s))

/-- keyDebounceExpiry (R106). -/
def execKeyDebounceExpiry (k : Key) (s : State) : Host.Outcome State Fault Refusal :=
  .next (finish (debounceExpires k s))

/-- holdTimerExpiry (R107). -/
def execHoldTimerExpiry (k : Key) (s : State) : Host.Outcome State Fault Refusal :=
  .next (finish (holdExpires k s))

/-- repeatTimerExpiry (R107). -/
def execRepeatTimerExpiry (k : Key) (s : State) : Host.Outcome State Fault Refusal :=
  .next (finish (repeatExpires k s))

/-- ringPhaseChange (R116). -/
def execRingPhaseChange (p : Phase) (high : Bool) (s : State) : Host.Outcome State Fault Refusal :=
  .next (finish (phaseChange p high s))

/-- phaseFilterExpiry (R116). -/
def execPhaseFilterExpiry (p : Phase) (s : State) : Host.Outcome State Fault Refusal :=
  .next (finish (phaseExpires p s))

/-- setInput (R123). -/
def execSetInput (s : State) : Host.Outcome State Fault Refusal :=
  .next (finish (serveRequest .setInput inputRequest s))

/-- wheelSnapshot (R121). -/
def execWheelSnapshot (s : State) : Host.Outcome State Fault Refusal :=
  .next (finish (serveRequest .wheelSnapshot (fun _ => wheelRequest) s))

end Sys2Proof.Machine
end

