-- ==== Sys2Proof/Machine/CmdLight.lean ====
section
/-! DEFINITION. The meanings of ticks, PWM frames and requests of the light unit:
the command's effect, then what ends every command (log 8). -/

namespace Sys2Proof.Machine

/-- lightTick (R131). -/
def execLightTick (s : State) : Host.Outcome State Fault Refusal :=
  .next (finish (tickLight s))

/-- pwmFrameStart (R133). -/
def execPwmFrameStart (c : LightChannel) (s : State) : Host.Outcome State Fault Refusal :=
  .next (finish (startFrame c s))

/-- setLight (R134). -/
def execSetLight (s : State) : Host.Outcome State Fault Refusal :=
  .next (finish (serveRequest .setLight lightRequest s))

/-- setLightTuning (R135). -/
def execSetLightTuning (s : State) : Host.Outcome State Fault Refusal :=
  .next (finish (serveRequest .setLightTuning lightTuningRequest s))

end Sys2Proof.Machine
end

