-- ==== Sys2Proof/Machine/CmdLink.lean ====
section
/-! DEFINITION. The meanings of headers and transferred bytes of the upstream link:
the command's effect, then what ends every command (log 8). -/

namespace Sys2Proof.Machine

/-- read (R2, R5). -/
def execRead (wordAddr : BitVec 24) (words : Nat) (s : State) : Host.Outcome State Fault Refusal :=
  .next (finish (takeHeader false wordAddr words s))

/-- write (R2, R5). -/
def execWrite (wordAddr : BitVec 24) (words : Nat) (s : State) : Host.Outcome State Fault Refusal :=
  .next (finish (takeHeader true wordAddr words s))

/-- configRead (R3). -/
def execConfigRead (index : Nat) (s : State) : Host.Outcome State Fault Refusal :=
  .next (finish (configTransaction (some (Config.linkProfile index)) s))

/-- configWrite (R3: its data is discarded). -/
def execConfigWrite (_index _data : Nat) (s : State) : Host.Outcome State Fault Refusal :=
  .next (finish (configTransaction none s))

/-- discardedHeader (R2: it is no transaction and changes nothing). -/
def execDiscardedHeader (s : State) : Host.Outcome State Fault Refusal :=
  .next (finish s)

/-- hostWriteByte (R9). -/
def execHostWriteByte (b : Byte) (s : State) : Host.Outcome State Fault Refusal :=
  .next (finish (hostByte b s))

/-- slotByteWrite (R40, R41). -/
def execSlotByteWrite (b : Byte) (s : State) : Host.Outcome State Fault Refusal :=
  .next (finish (slotWriteByte b s))

/-- intakeByteWrite (R158). -/
def execIntakeByteWrite (b : Byte) (s : State) : Host.Outcome State Fault Refusal :=
  .next (finish (intakeWriteByte b s))

/-- requestRecordReceive (R19). -/
def execRequestRecordReceive (bytes : List Byte) (s : State) : Host.Outcome State Fault Refusal :=
  .next (finish (recordBytesArrive bytes s))

/-- consumerWordWrite (R30). -/
def execConsumerWordWrite (v : Word16) (s : State) : Host.Outcome State Fault Refusal :=
  .next (finish (hostWordWrite v (actConsumer v) s))

/-- noticeDoneWrite (R35). -/
def execNoticeDoneWrite (v : Word16) (s : State) : Host.Outcome State Fault Refusal :=
  .next (finish (hostWordWrite v actNoticeDone s))

/-- hostWordsOtherWrite (R30). -/
def execHostWordsOtherWrite (v : Word16) (s : State) : Host.Outcome State Fault Refusal :=
  .next (finish (hostWordWrite v actOther s))

/-- noticeWordRead (R34). -/
def execNoticeWordRead (s : State) : Host.Outcome State Fault Refusal :=
  .next (finish (noticeRead s))

end Sys2Proof.Machine
end

