-- ==== Sys2Proof/Machine/CmdMemory.lean ====
section
/-! DEFINITION. The meanings of what the downstream memory answers:
the command's effect, then what ends every command (log 8). -/

namespace Sys2Proof.Machine

/-- memoryBurstEnd (R15). -/
def execMemoryBurstEnd (s : State) : Host.Outcome State Fault Refusal :=
  .next (finish (burstEnds s))

/-- memoryRetentionEntered (R17). -/
def execMemoryRetentionEntered (s : State) : Host.Outcome State Fault Refusal :=
  .next (finish (retentionEntered s))

/-- memoryExitComplete (R17). -/
def execMemoryExitComplete (s : State) : Host.Outcome State Fault Refusal :=
  .next (finish (exitCompleted s))

end Sys2Proof.Machine
end

