-- ==== Sys2Proof/Machine/CmdPower.lean ====
section
/-! DEFINITION. The meanings of requests and timers of the power controller:
the command's effect, then what ends every command (log 8). -/

namespace Sys2Proof.Machine

/-- setTimers (R174). -/
def execSetTimers (s : State) : Host.Outcome State Fault Refusal :=
  .next (finish (serveRequest .setTimers timersRequest s))

/-- setPowerActive (R181). -/
def execSetPowerActive (s : State) : Host.Outcome State Fault Refusal :=
  .next (finish (serveRequest .setPowerActive powerActiveRequest s))

/-- setPowerDoze (R175, R181). -/
def execSetPowerDoze (s : State) : Host.Outcome State Fault Refusal :=
  .next (finish (serveRequest .setPowerDoze (fun _ => powerDozeRequest) s))

/-- setPowerDeep (R178, R181). -/
def execSetPowerDeep (s : State) : Host.Outcome State Fault Refusal :=
  .next (finish (serveRequest .setPowerDeep (fun _ => powerDeepRequest) s))

/-- napTimerExpiry (R173). -/
def execNapTimerExpiry (s : State) : Host.Outcome State Fault Refusal :=
  .next (finish (napExpiry s))

/-- deepTimerExpiry (R173, R178). -/
def execDeepTimerExpiry (s : State) : Host.Outcome State Fault Refusal :=
  .next (finish (deepExpiry s))

/-- graceTimerExpiry (R178). -/
def execGraceTimerExpiry (s : State) : Host.Outcome State Fault Refusal :=
  .next (finish (graceExpiry s))

end Sys2Proof.Machine
end

