-- ==== Sys2Proof/Machine/CmdRequest.lean ====
section
/-! DEFINITION. The meanings of the request unit's own requests and the table loads:
the command's effect, then what ends every command (log 8). -/

namespace Sys2Proof.Machine

/-- requestBadCode (R21). -/
def execRequestBadCode (s : State) : Host.Outcome State Fault Refusal :=
  .next (finish (serveRequest .requestBadCode (fun _ => badCodeRequest) s))

/-- setNotice (R32). -/
def execSetNotice (s : State) : Host.Outcome State Fault Refusal :=
  .next (finish (serveRequest .setNotice noticeRequest s))

/-- loadTableLevels (R25, R136). -/
def execLoadTableLevels (s : State) : Host.Outcome State Fault Refusal :=
  .next (finish (serveLoadTable .loadTableLevels s))

/-- loadTableKeymap (R25, R109). -/
def execLoadTableKeymap (s : State) : Host.Outcome State Fault Refusal :=
  .next (finish (serveLoadTable .loadTableKeymap s))

/-- loadTableThermistor (R25, R145). -/
def execLoadTableThermistor (s : State) : Host.Outcome State Fault Refusal :=
  .next (finish (serveLoadTable .loadTableThermistor s))

/-- loadTableWatches (R25, R149). -/
def execLoadTableWatches (s : State) : Host.Outcome State Fault Refusal :=
  .next (finish (serveLoadTable .loadTableWatches s))

end Sys2Proof.Machine
end

