-- ==== Sys2Proof/Machine/CmdReset.lean ====
section
/-! DEFINITION. The meanings of the resets:
the command's effect, then what ends every command (log 8). -/

namespace Sys2Proof.Machine

/-- powerOnReset (R182). -/
def execPowerOnReset (s : State) : Host.Outcome State Fault Refusal :=
  .next (finish (resetPowerOn s))

/-- pinReset (R18, R182). -/
def execPinReset (transferred : Nat) (s : State) : Host.Outcome State Fault Refusal :=
  .next (finish (resetPin transferred s))

/-- linkReset (R7). -/
def execLinkReset (s : State) : Host.Outcome State Fault Refusal :=
  .next (finish (resetLink s))

/-- restart (R27, R92, R183). -/
def execRestart (s : State) : Host.Outcome State Fault Refusal :=
  .next (finish (serveRestart .restart s))

end Sys2Proof.Machine
end

