-- ==== Sys2Proof/Machine/CmdSampler.lean ====
section
/-! DEFINITION. The meanings of due times, conversions and requests of the sampler:
the command's effect, then what ends every command (log 8). -/

namespace Sys2Proof.Machine

/-- channelDue (R140). -/
def execChannelDue (c : Channel) (s : State) : Host.Outcome State Fault Refusal :=
  .next (finish (dueChannel c s))

/-- conversionComplete (R143). -/
def execConversionComplete (code : BitVec 10) (s : State) : Host.Outcome State Fault Refusal :=
  .next (finish (completeConversion code.toNat s))

/-- setSampler (R146). -/
def execSetSampler (s : State) : Host.Outcome State Fault Refusal :=
  .next (finish (serveRequest .setSampler samplerRequest s))

/-- sampleNow (R147). -/
def execSampleNow (s : State) : Host.Outcome State Fault Refusal :=
  .next (finish (serveRequest .sampleNow sampleRequest s))

end Sys2Proof.Machine
end

