-- ==== Sys2Proof/Machine/CmdSlot.lean ====
section
/-! DEFINITION. The meanings of requests of the slot unit:
the command's effect, then what ends every command (log 8). -/

namespace Sys2Proof.Machine

/-- mark (R43). -/
def execMark (s : State) : Host.Outcome State Fault Refusal :=
  .next (finish (serveRequest .mark markRequest s))

/-- turn (R47, R55). -/
def execTurn (s : State) : Host.Outcome State Fault Refusal :=
  .next (finish (serveRequest .turn turnRequest s))

/-- jump (R56). -/
def execJump (s : State) : Host.Outcome State Fault Refusal :=
  .next (finish (serveRequest .jump jumpRequest s))

/-- cancelTurns (R57). -/
def execCancelTurns (s : State) : Host.Outcome State Fault Refusal :=
  .next (finish (serveRequest .cancelTurns (fun _ => cancelTurnsRequest) s))

end Sys2Proof.Machine
end

