-- ==== Sys2Proof/Machine/Dispatch.lean ====
section
/-! DEFINITION. Which meaning each command has. -/

namespace Sys2Proof.Machine

def exec (i : Instr) (s : State) : Host.Outcome State Fault Refusal :=
  match i with
  | .powerOnReset => Sys2Proof.Machine.execPowerOnReset s
  | .pinReset transferred => Sys2Proof.Machine.execPinReset transferred s
  | .linkReset => Sys2Proof.Machine.execLinkReset s
  | .read wordAddr words => Sys2Proof.Machine.execRead wordAddr words s
  | .write wordAddr words => Sys2Proof.Machine.execWrite wordAddr words s
  | .configRead index => Sys2Proof.Machine.execConfigRead index s
  | .configWrite index data => Sys2Proof.Machine.execConfigWrite index data s
  | .discardedHeader => Sys2Proof.Machine.execDiscardedHeader s
  | .hostWriteByte b => Sys2Proof.Machine.execHostWriteByte b s
  | .slotByteWrite b => Sys2Proof.Machine.execSlotByteWrite b s
  | .intakeByteWrite b => Sys2Proof.Machine.execIntakeByteWrite b s
  | .requestRecordReceive bytes => Sys2Proof.Machine.execRequestRecordReceive bytes s
  | .consumerWordWrite v => Sys2Proof.Machine.execConsumerWordWrite v s
  | .noticeDoneWrite v => Sys2Proof.Machine.execNoticeDoneWrite v s
  | .hostWordsOtherWrite v => Sys2Proof.Machine.execHostWordsOtherWrite v s
  | .noticeWordRead => Sys2Proof.Machine.execNoticeWordRead s
  | .memoryBurstEnd => Sys2Proof.Machine.execMemoryBurstEnd s
  | .memoryRetentionEntered => Sys2Proof.Machine.execMemoryRetentionEntered s
  | .memoryExitComplete => Sys2Proof.Machine.execMemoryExitComplete s
  | .requestBadCode => Sys2Proof.Machine.execRequestBadCode s
  | .setNotice => Sys2Proof.Machine.execSetNotice s
  | .loadTableLevels => Sys2Proof.Machine.execLoadTableLevels s
  | .loadTableKeymap => Sys2Proof.Machine.execLoadTableKeymap s
  | .loadTableThermistor => Sys2Proof.Machine.execLoadTableThermistor s
  | .loadTableWatches => Sys2Proof.Machine.execLoadTableWatches s
  | .mark => Sys2Proof.Machine.execMark s
  | .turn => Sys2Proof.Machine.execTurn s
  | .jump => Sys2Proof.Machine.execJump s
  | .cancelTurns => Sys2Proof.Machine.execCancelTurns s
  | .loadWaveforms => Sys2Proof.Machine.execLoadWaveforms s
  | .unloadWaveforms => Sys2Proof.Machine.execUnloadWaveforms s
  | .present => Sys2Proof.Machine.execPresent s
  | .cancel => Sys2Proof.Machine.execCancel s
  | .frameBoundary => Sys2Proof.Machine.execFrameBoundary s
  | .setPanel => Sys2Proof.Machine.execSetPanel s
  | .clearRailFault => Sys2Proof.Machine.execClearRailFault s
  | .railGoodRise => Sys2Proof.Machine.execRailGoodRise s
  | .railGoodFall => Sys2Proof.Machine.execRailGoodFall s
  | .riseTimerExpiry => Sys2Proof.Machine.execRiseTimerExpiry s
  | .railHoldTimerExpiry => Sys2Proof.Machine.execRailHoldTimerExpiry s
  | .fallTimerExpiry => Sys2Proof.Machine.execFallTimerExpiry s
  | .faultCheckExpiry => Sys2Proof.Machine.execFaultCheckExpiry s
  | .keyRawChange k down => Sys2Proof.Machine.execKeyRawChange k down s
  | .keyDebounceExpiry k => Sys2Proof.Machine.execKeyDebounceExpiry k s
  | .holdTimerExpiry k => Sys2Proof.Machine.execHoldTimerExpiry k s
  | .repeatTimerExpiry k => Sys2Proof.Machine.execRepeatTimerExpiry k s
  | .ringPhaseChange p high => Sys2Proof.Machine.execRingPhaseChange p high s
  | .phaseFilterExpiry p => Sys2Proof.Machine.execPhaseFilterExpiry p s
  | .setInput => Sys2Proof.Machine.execSetInput s
  | .wheelSnapshot => Sys2Proof.Machine.execWheelSnapshot s
  | .lightTick => Sys2Proof.Machine.execLightTick s
  | .pwmFrameStart c => Sys2Proof.Machine.execPwmFrameStart c s
  | .setLight => Sys2Proof.Machine.execSetLight s
  | .setLightTuning => Sys2Proof.Machine.execSetLightTuning s
  | .channelDue c => Sys2Proof.Machine.execChannelDue c s
  | .conversionComplete code => Sys2Proof.Machine.execConversionComplete code s
  | .setSampler => Sys2Proof.Machine.execSetSampler s
  | .sampleNow => Sys2Proof.Machine.execSampleNow s
  | .openDownload => Sys2Proof.Machine.execOpenDownload s
  | .closeDownload => Sys2Proof.Machine.execCloseDownload s
  | .setTimers => Sys2Proof.Machine.execSetTimers s
  | .setPowerActive => Sys2Proof.Machine.execSetPowerActive s
  | .setPowerDoze => Sys2Proof.Machine.execSetPowerDoze s
  | .setPowerDeep => Sys2Proof.Machine.execSetPowerDeep s
  | .restart => Sys2Proof.Machine.execRestart s
  | .napTimerExpiry => Sys2Proof.Machine.execNapTimerExpiry s
  | .deepTimerExpiry => Sys2Proof.Machine.execDeepTimerExpiry s
  | .graceTimerExpiry => Sys2Proof.Machine.execGraceTimerExpiry s

end Sys2Proof.Machine
end

