-- ==== Sys2Proof/Safety.lean ====
section
/-! DEFINITION. What counts as a safe run, and the terms the statements use: what a next state keeps (`State.fixed`,
`State.steady`), the conditions in which a command has its own effect, what a reply is, and the invariants of the part. -/

namespace Sys2Proof.Machine

/-! ## Safe steps -/

/-- A state from which the step answers a next state. -/
def Safe (s : State) : Prop := ∃ t, step s = .next t

/-- The command answers a next state of which `P` holds. -/
def Answers (i : Instr) (s : State) (P : State → Prop) : Prop := ∃ t, exec i s = .next t ∧ P t

/-- Every step from a state with the property leads to one with it. -/
def Keeps (P : State → Prop) : Prop := ∀ s t, P s → step s = .next t → P t

/-! ## What the end of a command leaves alone (log 8) -/

/-- A ring's values that only its consumer and SET-NOTICE change. -/
def Ring.taken (r : Ring) : Word16 × Bool := (r.consumed, r.enabled)

/-- A ring's values that only its producers change. -/
def Ring.placed (r : Ring) : Word16 × List Entry := (r.produced, r.places)

/-- A slot's values but for its source count. -/
def Slot.shape (x : Slot) : Role × Bool × Nat × List Nat := (x.role, x.ready, x.tag, x.dirty)

/-- A channel's values that only a conversion's end and SET-SAMPLER change. -/
def ChannelUnit.sample (x : ChannelUnit) : Nat × Word16 × Option (Nat × Time) × Option (Int × Time) :=
  (x.period, x.count, x.conv, x.value)

/-- The values that the end of a command leaves alone while no RESTART waits: the frame of the statements. -/
structure Fixed where
  pending : List Instr
  time : Time
  mem : Memory
  sent : List Byte
  configAnswer : Nat
  guard : Guard
  fifo : List (List Byte)
  stack : List RingId
  taken : List (Word16 × Bool)
  placed : List (Word16 × List Entry)
  slots : List (Role × Bool × Nat × List Nat)
  serial : Nat
  setState : SetState
  set : Option WaveSet
  load : Option LoadStage
  loadTag : Nat
  lastResult : LoadResult
  failCause : Nat
  failTable : Nat
  coldLock : Bool
  late : Nat
  settings : PanelSettings
  panelBus : Option (List PixelDrive)
  good : Bool
  inputs : Nat × Nat × Nat × Nat × CountMode × Nat
  wheel : Word32 × Nat × Int × WheelRecord
  settled : Bool × Bool × Int
  light : Nat × Nat × Nat × Bool × Tuning
  counter : Nat × Nat
  scale : Nat
  thermFault : Bool
  samples : List (Nat × Word16 × Option (Nat × Time) × Option (Int × Time))
  counts : Nat × Nat × Nat × Nat × Nat
  battery : Battery
  timers : Nat × Nat × Nat
  lastWake : WakeCause
  reason : DepartReason
  graceBegan : Time
  restarting : Bool

/-- The values of a state that the end of a command leaves alone while no RESTART waits: the queue, time, memory, the
link's outputs, the guard record, the request FIFO, the stack, every ring's C and enable, what the POWER, INPUT, INTAKE
and WATCH rings hold, the slots but for source counts, the waveform set, the panel settings, inputs, light settings,
samples, counts, and the power controller's settings. -/
def State.fixed (s : State) : Fixed :=
  { pending := s.pending
    time := s.time
    mem := s.mem
    sent := s.link.sent
    configAnswer := s.link.configAnswer
    guard := s.guard
    fifo := s.request.fifo
    stack := s.report.stack
    taken := [s.report.rings.power.taken, s.report.rings.input.taken, s.report.rings.display.taken,
      s.report.rings.intake.taken, s.report.rings.watch.taken, s.report.rings.reply.taken]
    placed := [s.report.rings.power.placed, s.report.rings.input.placed, s.report.rings.intake.placed,
      s.report.rings.watch.placed]
    slots := [s.slot.slots[0].shape, s.slot.slots[1].shape, s.slot.slots[2].shape, s.slot.slots[3].shape]
    serial := s.slot.serial
    setState := s.wave.setState
    set := s.wave.set
    load := s.wave.load
    loadTag := s.wave.loadTag
    lastResult := s.wave.lastResult
    failCause := s.wave.failCause
    failTable := s.wave.failTable
    coldLock := s.wave.coldLock
    late := s.drive.late
    settings := s.drive.settings
    panelBus := s.drive.panelBus
    good := s.rail.good
    inputs := (s.input.debounce, s.input.hold, s.input.repeatPeriod, s.input.phaseFilter, s.input.mode,
      s.input.wheelStep)
    wheel := (s.input.position, s.input.skips, s.input.accumulator, s.input.wheelRecord)
    settled := (s.input.settledA, s.input.settledB, s.input.stepSum)
    light := (s.light.level, s.light.remembered, s.light.warmth, s.light.follow, s.light.tuning)
    counter := (s.light.counter, s.light.prescaler)
    scale := s.sampler.scale
    thermFault := s.sampler.thermFault
    samples := [s.sampler.chans.batt.sample, s.sampler.chans.therm.sample, s.sampler.chans.amb.sample]
    counts := (s.intake.headerErrors, s.intake.syncLosses, s.intake.breaks, s.intake.unknown, s.intake.outOfRange)
    battery := s.power.battery
    timers := (s.power.napAfter, s.power.deepAfter, s.power.grace)
    lastWake := s.power.lastWake
    reason := s.power.reason
    graceBegan := s.power.graceBegan
    restarting := s.power.restarting }

/-- The states in which the end of a command makes no power transition: not INIT (which ends with its writes, R182), not
DOZE (which naps, R175), not the drain (which ends in DEEP, R179), and no RESTART waits (R183). -/
abbrev Steady (s : State) : Prop :=
  s.power.state ≠ .init ∧ s.power.state ≠ .doze ∧ s.power.state ≠ .departing .drain ∧ s.power.restarting = false

/-- The values that the end of a command leaves alone besides, in a steady state. -/
structure SteadyView where
  fixed : Fixed
  state : PowerState
  deepEntered : Time
  graceTimer : Option Time
  retention : Retention
  forward : List PendingTurn
  back : List PendingTurn
  keys : Keys
  phases : PhaseUnit × PhaseUnit
  entries : Vector Download 4
  cursor : Nat
  parser : Parser
  frames : Nat × Nat
  running : Bool

/-- The values of a steady state that the end of a command leaves alone: those of `State.fixed`, the power state,
the grace timer, retention, the pending turns, keys and phases, the download entries, the intake cursor and parser, and
the PWM frames. -/
def State.steady (s : State) : SteadyView :=
  { fixed := s.fixed
    state := s.power.state
    deepEntered := s.power.deepEntered
    graceTimer := s.power.graceTimer
    retention := s.port.retention
    forward := s.slot.forward
    back := s.slot.back
    keys := s.input.keys
    phases := (s.input.phaseA, s.input.phaseB)
    entries := s.intake.entries
    cursor := s.intake.cursor
    parser := s.intake.parser
    frames := (s.light.coolFrame, s.light.warmFrame)
    running := s.light.running }

/-- ACTIVE, with no RESTART waiting: the state in which the host works. -/
abbrev Awake (s : State) : Prop := s.power.state = .active ∧ s.power.restarting = false

/-- No update waits and no lane is active (R61). -/
abbrev NoUpdates (s : State) : Prop := s.drive.queue = [] ∧ ∀ i ∈ laneIds, s.lane i = none

/-- The memory port is free and SERVING with nothing to grant, and no block has traffic for it. -/
abbrev PortQuiet (s : State) : Prop :=
  s.port.burst = none ∧ s.port.retention = .serving ∧ s.port.queue = [] ∧ s.drive.claim1 = none ∧ s.drive.claim5 = none
  ∧ s.wave.load = none ∧ s.intake.claim = none ∧ s.link.phase = .idle

/-- A steady state with the memory port busy and no update waiting: the end of a command makes no grant and starts no
lane. -/
abbrev Calm (s : State) : Prop := Steady s ∧ s.port.burst.isSome = true ∧ s.drive.queue = []

/-- A channel but for what the converter's choice changes (R140). -/
def ChannelUnit.calm (x : ChannelUnit) : ChannelUnit := { x with due := false, nextDue := none }

/-- The state but for what the end of a command may change in a calm state: the converter's choice (R142), the
examination of a hold (R5), and the drive engine's claims (R83, R85). -/
def State.calm (s : State) : State :=
  { s with
    link := { s.link with phase := .idle }
    drive := { s.drive with claim1 := none, claim5 := none }
    sampler := { s.sampler with
      converter := .idle
      demands := []
      chans := ⟨s.sampler.chans.batt.calm, s.sampler.chans.therm.calm, s.sampler.chans.amb.calm⟩ } }

/-! ## Requests -/

/-- The request unit takes this record for this command (R20, R21), and no RESTART waits. -/
abbrev Takes (i : Instr) (s : State) (r : List Byte) : Prop :=
  nextRequest i s = some r ∧ s.power.restarting = false

/-- The state with the oldest record gone from the FIFO. -/
def State.dropRecord (s : State) : State := s.setRequest ⟨s.request.fifo.drop 1, none⟩

/-- The request's handling has ended: its record is gone, the unit is IDLE, and the REPLY ring has taken the reply with
the request's code, host flags and host tag, at the part time (R20, R22, R28, R29). -/
abbrev Replied (s t : State) (r : List Byte) (x : Reply) : Prop :=
  t.request = ⟨s.request.fifo.drop 1, none⟩ ∧
  t.report.rings.reply.placed =
    (placeEntry 32 s.report.rings.reply
      ⟨.reply (BitVec.ofNat 8 (reqCode r)) (BitVec.ofNat 8 (argU8 r 1)) x, false, reqTag r, s.time⟩).2.placed

/-- What an owner decides on each request that is decided at dispatch (R20, R21). LOAD-TABLE and RESTART are replied to
later (R25, R27). -/
def requestOwner : Instr → Option (List Byte → State → State × Reply)
  | .requestBadCode => some fun _ => badCodeRequest
  | .setNotice => some noticeRequest
  | .mark => some markRequest
  | .turn => some turnRequest
  | .jump => some jumpRequest
  | .cancelTurns => some fun _ => cancelTurnsRequest
  | .loadWaveforms => some loadWaveformsRequest
  | .unloadWaveforms => some unloadWaveformsRequest
  | .present => some presentRequest
  | .cancel => some cancelRequest
  | .setPanel => some panelRequest
  | .clearRailFault => some fun _ => clearRailFaultRequest
  | .setInput => some inputRequest
  | .wheelSnapshot => some fun _ => wheelRequest
  | .setLight => some lightRequest
  | .setLightTuning => some lightTuningRequest
  | .setSampler => some samplerRequest
  | .sampleNow => some sampleRequest
  | .openDownload => some openRequest
  | .closeDownload => some closeRequest
  | .setTimers => some timersRequest
  | .setPowerActive => some powerActiveRequest
  | .setPowerDoze => some fun _ => powerDozeRequest
  | .setPowerDeep => some fun _ => powerDeepRequest
  | _ => none

/-- The entry placed last in a ring: at place (P − 1) modulo the capacity. -/
def lastEntry (s : State) (i : RingId) : Entry :=
  (s.ring i).places.getD (((s.ring i).produced - 1#16).toNat % i.capacity) Entry.none

/-- An update record is in the part, waiting or in a lane. -/
def Carried (s : State) (P : UpdateRecord → Prop) : Prop :=
  (∃ u ∈ s.drive.queue, P u) ∨ ∃ i l, s.lane i = some l ∧ P l.upd

/-- The transaction in progress (R4). -/
def LinkPhase.txn : LinkPhase → Option Txn
  | .idle | .off => none
  | .held t | .claiming t | .data t => some t

/-- A WRITE is in its data phase, and its next byte lies in an area (R2, R9). -/
abbrev WritesAt (s : State) (x : Txn) (a : Area) : Prop :=
  s.link.phase = .data x ∧ x.isWrite = true ∧ x.pos < x.len ∧ areaOf x.here = a

/-- A READ is in its data phase (R2). -/
abbrev Reads (s : State) (x : Txn) : Prop := s.link.phase = .data x ∧ x.isWrite = false

/-! ## Invariants of the part -/

/-- R33: the notice value is the one the rule gives. -/
abbrev NoticeRight (s : State) : Prop := s.report.value = noticeOf s.report

/-- R34: each source on the under-service stack lies above sources of strictly lower priority. -/
abbrev StackOrdered (s : State) : Prop := s.report.stack.Pairwise fun a b => a.id < b.id

/-- R28: in every ring the unread entries are at most the capacity, and the ring has its places. -/
abbrev RingsBounded (s : State) : Prop :=
  ∀ i ∈ ringIds, (s.ring i).unread ≤ i.capacity ∧ (s.ring i).places.length = i.capacity

/-- R15: the starvation count is 0..16. -/
abbrev StarvationBounded (s : State) : Prop := s.port.starvation ≤ 16

/-- R38: the four slots carry the four roles, one each. -/
abbrev RolesApart (s : State) : Prop := (fourIds.map fun n => (s.slotAt n).role).Nodup

/-- R42, for the slot of a role: READY only with the tag it must carry. -/
abbrev PageFits (s : State) (r : Role) : Prop :=
  (s.slotAt (s.slot.withRole r)).ready = true →
    neighbourTag (s.slotAt (s.slot.withRole .shown)) r = some (s.slotAt (s.slot.withRole r)).tag

/-- R38, R42: the roles are apart, AHEAD and BEHIND fit the shown page, tags are u32, and an EMPTY slot has tag 0. -/
abbrev PagesAdjacent (s : State) : Prop :=
  RolesApart s ∧ PageFits s .ahead ∧ PageFits s .behind
  ∧ ∀ n ∈ fourIds, (s.slotAt n).tag < 2 ^ 32 ∧ ((s.slotAt n).ready = false → (s.slotAt n).tag = 0)

/-- R49: at most one pending-turn list is not empty, and each holds at most 8 items. -/
abbrev TurnsBounded (s : State) : Prop :=
  (s.slot.forward = [] ∨ s.slot.back = []) ∧ s.slot.forward.length ≤ 8 ∧ s.slot.back.length ≤ 8

/-- R79: no two active records have overlapping rectangles. -/
abbrev LanesApart (s : State) : Prop :=
  s.drive.active.Pairwise fun a b => a.2.upd.rect.overlaps b.2.upd.rect = false

/-- R89: every tile's ghost count is at most the ghost limit in force. -/
abbrev GhostsBounded (s : State) : Prop := ∀ g ∈ s.drive.ghost, g.2 ≤ s.drive.settings.ghostLimit

/-- R84, R97, R100, R103: the rails are RISING or ON only for active lanes, no lane is active in OFF, HOLD and FAULT, a
lane drives only in ON, completion writes are a driving lane's (R86), and a waiting latch claim is for a lane in LATCH. -/
abbrev RailsServeLanes (s : State) : Prop :=
  (s.rail.state = .rising ∨ s.rail.state = .on → 0 < activeCount s)
  ∧ (s.rail.state = .off ∨ s.rail.state = .hold ∨ s.rail.state = .fault → activeCount s = 0)
  ∧ (∀ a ∈ s.drive.active,
      (a.2.state = .driving → s.rail.state = .on) ∧ (a.2.completing = true → a.2.state = .driving))
  ∧ ∀ i ∈ laneIds, s.drive.claim5 = some i → (s.lane i).map (·.state) = some .latch

/-- R129, R131: the targets, and the present duties, sum to at most 1000. -/
abbrev LightBounded (s : State) : Prop :=
  s.light.coolTarget + s.light.warmTarget ≤ 1000 ∧ s.light.coolDuty + s.light.warmDuty ≤ 1000

/-- R130: while the battery is CRITICAL or the power cap is 0, the targets and the present duties are 0. -/
abbrev LightForcedOff (s : State) : Prop :=
  forcedOff s.power.battery s.power.state = true →
    s.light.coolTarget = 0 ∧ s.light.warmTarget = 0 ∧ s.light.coolDuty = 0 ∧ s.light.warmDuty = 0

/-- R154: the ranges of entries that are not FREE lie inside the assembly area and are pairwise disjoint. -/
abbrev RangesApart (s : State) : Prop :=
  ∀ e ∈ fourIds, (s.download e).state ≠ .free →
    (s.download e).offset + (s.download e).size ≤ Config.assemblySize
    ∧ ∀ k ∈ fourIds, k ≠ e → (s.download k).overlapsRange (s.download e).offset (s.download e).size = false

/-- R8, R142, R179: the link is OFF and the converter STOPPED in DEEP and only there; in DEEP no request is at hand, no
RESTART waits, and the deep and grace timers are stopped. -/
abbrev DeepAsleep (s : State) : Prop :=
  (s.link.phase = .off ↔ s.power.state = .deep) ∧ (s.sampler.converter = .stopped ↔ s.power.state = .deep)
  ∧ (s.power.state = .deep →
      s.request.fifo = [] ∧ s.request.inHand = none ∧ s.power.restarting = false ∧ s.power.deepTimer = none
      ∧ s.power.graceTimer = none)

/-- Between two values. -/
abbrev within (lo hi v : Nat) : Prop := lo ≤ v ∧ v ≤ hi

/-- R94, R123, R124, R146, R174: every setting lies in its range. -/
abbrev SettingsInRange (s : State) : Prop :=
  (within 256 2048 s.drive.settings.width ∧ within 256 1536 s.drive.settings.height
    ∧ within 1 255 s.drive.settings.ghostLimit ∧ within 1 600 s.drive.settings.freshness
    ∧ within 0 60000 s.drive.settings.hold)
  ∧ (within 1 64 s.input.debounce ∧ within 200 5000 s.input.hold
    ∧ (s.input.repeatPeriod = 0 ∨ within 100 2000 s.input.repeatPeriod) ∧ within 0 15 s.input.phaseFilter
    ∧ within 0 64 s.input.wheelStep)
  ∧ (within 0 63 s.light.level ∧ within 0 63 s.light.remembered ∧ within 0 16 s.light.warmth
    ∧ within 0 1023 s.light.tuning.a0 ∧ within 0 1023 s.light.tuning.a1 ∧ within 0 1000 s.light.tuning.floor
    ∧ within 0 1000 s.light.tuning.lowCap ∧ within 0 1000 s.light.tuning.inrushCap
    ∧ within 1 1000 s.light.tuning.step ∧ within 1 120 s.light.tuning.prescaler ∧ s.light.table.length = 64
    ∧ ∀ t ∈ s.light.table, t ≤ 1000)
  ∧ (within 1000 8000 s.sampler.scale
    ∧ ∀ c ∈ [s.sampler.chans.batt, s.sampler.chans.therm, s.sampler.chans.amb],
        c.period = 0 ∨ within 100 60000 c.period)
  ∧ ((s.power.napAfter = 0 ∨ within 500 600000 s.power.napAfter)
    ∧ (s.power.deepAfter = 0 ∨ within 60 86400 s.power.deepAfter) ∧ within 0 120 s.power.grace)

/-- R9, R10: a byte of memory that the guard keeps from every host write, whatever the transaction: the mirror, the
part-written pages, the waveform area while a set is LOADING or LOADED, and the ranges of download entries that are not
FREE. -/
abbrev Guarded (s : State) (a : Nat) : Prop :=
  (0x1A00000 ≤ a ∧ a < 0x1D00000)
  ∨ (0x1F80000 ≤ a ∧ a < 0x1F81000) ∨ (0x1F87000 ≤ a ∧ a < 0x1F8D000)
  ∨ ((s.wave.setState = .loading ∨ s.wave.setState = .loaded) ∧ 0x1D00000 ≤ a ∧ a < 0x1F00000)
  ∨ (0x0C00000 ≤ a ∧ a < 0x1400000 ∧ ∃ e ∈ fourIds, (s.download e).state ≠ .free
      ∧ 0x0C00000 + (s.download e).offset ≤ a ∧ a < 0x0C00000 + (s.download e).offset + (s.download e).size)

/-- The state with an entry placed in a ring as R28 and R29 state, the notice apart. -/
def State.withEntry (s : State) (i : RingId) (body : EntryBody) (tag : Nat) : State :=
  s.setRing i (placeEntry i.capacity (s.ring i) ⟨body, false, tag, s.time⟩).2

end Sys2Proof.Machine

namespace Sys2Proof

/-- The commands after which memory may hold other bytes (R9, R15, R18). -/
def Instr.mayStore : Instr → Bool
  | .powerOnReset | .pinReset _ | .memoryBurstEnd => true
  | .hostWriteByte _ | .slotByteWrite _ | .intakeByteWrite _ | .requestRecordReceive _ => true
  | .consumerWordWrite _ | .noticeDoneWrite _ | .hostWordsOtherWrite _ => true
  | _ => false

/-- The commands that are bytes and words a host writes (R9, R12). -/
def Instr.isHostWrite : Instr → Bool
  | .hostWriteByte _ | .slotByteWrite _ | .intakeByteWrite _ | .requestRecordReceive _ => true
  | .consumerWordWrite _ | .noticeDoneWrite _ | .hostWordsOtherWrite _ => true
  | _ => false

end Sys2Proof
end

