-- ==== Sys2Proof/Certificates/Slice0/Obligations.lean ====
section
/-! DEFINITION. The statements for the provers. What a command leaves alone is said through `State.fixed`, `State.steady`
and `State.calm` (Safety.lean): a statement gives every value of the view. -/

open Sys2Proof Sys2Proof.Machine

/-! ## The step -/

/-- A step takes the command at the front of the queue and runs it with the queue's rest (the host's block interface). -/
def Obligations.StepRunsTheFrontCommand : Prop :=
  ∀ (c : Instr) (rest : List Instr) (s : State), step (s.setPending (c :: rest)) = exec c (s.setPending rest)

/-- The model's choice of log 1: on an empty queue a waiting request is dispatched by the command of its code (R20);
otherwise part time advances by 1 ms and what falls due joins the queue. -/
def Obligations.EmptyQueueGoesOn : Prop :=
  ∀ s : State, s.pending = [] → s.power.restarting = false →
    ∃ t, step s = .next t
      ∧ (∀ r rest, s.request.inHand = none → s.request.fifo = r :: rest →
          t.fixed = { s.fixed with pending := [dispatchOf r] })
      ∧ (s.request.inHand ≠ none ∨ s.request.fifo = [] →
          t.fixed = { s.fixed with
            time := s.time + 1#32
            pending := dueCommands (s.setTime (s.time + 1#32)) })

/-- What every command leaves alone: the queue of waiting commands; part time, but for the two resets that set it to 0;
memory, but for the commands that write it (R9, R15, R18). -/
def Obligations.CommandsLeaveQueueTimeMemory : Prop :=
  ∀ (i : Instr) (s : State), Answers i s fun t =>
    t.pending = s.pending
    ∧ (t.time = s.time ∨ t.time = 0#32 ∧ (i = .powerOnReset ∨ ∃ n, i = .pinReset n))
    ∧ (i.mayStore = false → t.mem = s.mem)

/-- R9, R10: no byte or word a host writes changes a byte the guard protects, in a memory in its canonical form
(MemoryStaysCanonical). -/
def Obligations.GuardedBytesStand : Prop :=
  ∀ (i : Instr) (s : State) (a : Nat), Memory.wf s.mem = true → i.isHostWrite = true → Guarded s a →
    Answers i s fun t => readByte t.mem a = readByte s.mem a

/-! ## Reset and the invariants -/

/-- What reset leaves, by chapter (R4, R18, R27, R31, R32, R36, R39, R58, R69, R70, R73, R88, R89, R94, R96, R108, R123,
R124, R139, R145, R148, R154, R171, R172, R182), and that State.reset meets every invariant below. The input pins at rest
are the model's choice (log 5). -/
def Obligations.ResetValuesMeetTheInvariants : Prop :=
  let s := State.reset
  (s.time = 0#32 ∧ s.link.phase = .idle ∧ s.guard = ⟨0, 0, 0, 0, 0, 0⟩ ∧ s.port.retention = .serving
    ∧ s.port.burst = none ∧ s.port.starvation = 0 ∧ s.request = ⟨[], none⟩ ∧ s.report.stack = []
    ∧ s.report.value = none)
  ∧ (∀ i ∈ ringIds, (s.ring i).produced = 0#16 ∧ (s.ring i).consumed = 0#16 ∧ (s.ring i).enabled = true)
  ∧ (s.slot.slots = #v[⟨.shown, false, 0, [], 0⟩, ⟨.ahead, false, 0, [], 0⟩, ⟨.behind, false, 0, [], 0⟩,
      ⟨.spare, false, 0, [], 0⟩] ∧ s.slot.forward = [] ∧ s.slot.back = [] ∧ s.slot.serial = 0)
  ∧ (s.wave.setState = .unloaded ∧ s.wave.band = none ∧ s.wave.coldLock = false)
  ∧ (NoUpdates s ∧ s.drive.mirrorKnown = false ∧ s.drive.ghost = [] ∧ s.drive.settings = ⟨1872, 1404, 6, 0, 60, 1500⟩)
  ∧ (s.rail.state = .off ∧ s.rail.cause = .none ∧ s.rail.count = 0 ∧ s.rail.timer = none)
  ∧ (s.input.debounce = 10 ∧ s.input.hold = 700 ∧ s.input.repeatPeriod = 400 ∧ s.input.phaseFilter = 2
    ∧ s.input.mode = .edge ∧ s.input.wheelStep = 4 ∧ s.input.position = 0#32 ∧ s.input.skips = 0
    ∧ s.input.keyMap = #v[.turnFwd, .turnFwd, .turnFwd, .turnBack, .turnBack, .turnBack, .sleepRequest, .notify, .none,
        .lightToggle, .lightUp, .lightUp])
  ∧ (s.light.level = 0 ∧ s.light.remembered = 0 ∧ s.light.warmth = 8 ∧ s.light.follow = false
    ∧ s.light.tuning = ⟨64, 640, 300, 400, 300, 40, 24⟩ ∧ s.light.factor = 1000 ∧ s.light.cap = 1000
    ∧ s.light.total = 0 ∧ ∀ i < 64, s.light.table.getD i 0 = i * 1000 / 63)
  ∧ (s.sampler.converter = .idle ∧ s.sampler.demands = [] ∧ s.sampler.scale = 5120
    ∧ s.sampler.chans.batt.period = 10000 ∧ s.sampler.chans.therm.period = 30000 ∧ s.sampler.chans.amb.period = 1000
    ∧ s.sampler.chans.batt.due = true ∧ s.sampler.chans.therm.due = true ∧ s.sampler.chans.amb.due = true)
  ∧ (∀ i ∈ watchIds, s.watches[i].mode = .off ∧ s.watches[i].last = .unset)
  ∧ ((∀ e ∈ fourIds, (s.download e).state = .free) ∧ s.intake.cursor = 0 ∧ s.intake.parser = .hunt [])
  ∧ (s.power.state = .init ∧ s.power.battery = .normal ∧ s.power.napAfter = 3000 ∧ s.power.deepAfter = 1800
    ∧ s.power.grace = 15 ∧ s.power.lastWake = .none ∧ s.power.release = none)
  ∧ (Memory.wf s.mem = true ∧ NoticeRight s ∧ StackOrdered s ∧ RingsBounded s ∧ StarvationBounded s
    ∧ PagesAdjacent s ∧ TurnsBounded s ∧ LanesApart s ∧ GhostsBounded s ∧ RailsServeLanes s ∧ LightBounded s
    ∧ LightForcedOff s ∧ RangesApart s ∧ DeepAsleep s ∧ SettingsInRange s)

/-- Memory keeps its canonical form, the model's own (00_scope.md 0.4 gives the address space). -/
def Obligations.MemoryStaysCanonical : Prop := Keeps fun s => Memory.wf s.mem = true

/-- R28: every ring holds at most its capacity of unread entries. R33, R34: the notice value is the rule's, and the stack lies
in strict order of priority. R15: the starvation count is at most 16. -/
def Obligations.RingsAndNoticeStayRight : Prop := Keeps fun s =>
  RingsBounded s ∧ NoticeRight s ∧ StackOrdered s ∧ StarvationBounded s

/-- R38, R42: the four roles stay on the four slots, and READY neighbours carry adjacent tags. R49: at most one pending-turn
list is not empty, and each holds at most 8 turns. -/
def Obligations.SlotsStayConsistent : Prop := Keeps fun s => PagesAdjacent s ∧ TurnsBounded s

/-- R79: the rectangles of active records do not overlap. R89: every tile's ghost count is at most the ghost limit in force. -/
def Obligations.LanesAndGhostCountsStayBounded : Prop := Keeps fun s => LanesApart s ∧ GhostsBounded s

/-- R84, R97, R100, R102: the rails serve the active lanes. -/
def Obligations.RailsServeTheLanes : Prop := Keeps RailsServeLanes

/-- R129, R131: targets and duties sum to at most 1000, and R130: they are 0 in a forced-off case. -/
def Obligations.LightStaysBounded : Prop := Keeps fun s => LightBounded s ∧ LightForcedOff s

/-- R154, R155: the ranges of downloads stay inside the assembly area and pairwise disjoint. -/
def Obligations.DownloadRangesStayApart : Prop := Keeps RangesApart

/-- R8, R142, R179: the link is OFF and the converter STOPPED in DEEP and only there, and nothing waits in DEEP. -/
def Obligations.DeepStaysAsleep : Prop := Keeps DeepAsleep

/-- R94, R123, R124, R146, R174: every setting stays in its range. -/
def Obligations.SettingsStayInRange : Prop := Keeps SettingsInRange

/-! ## Shared rules: rings, bands, the thermistor, watches, settlement -/

/-- R28: an entry produced into a ring with room. R29: a ring overruns: the place keeps a write that waits, which then
carries the new entry, or takes one; and the next entry replaces this one in the same way. -/
def Obligations.ProducedEntriesTakeTheirPlaces : Prop :=
  (∀ (i : RingId) (body : EntryBody) (tag : Nat) (s : State), (s.ring i).unread < i.capacity →
     let place := (s.ring i).produced.toNat % i.capacity
     let t := produce i body tag s
     (t.ring i).places = (s.ring i).places.set place ⟨body, false, tag, s.time⟩
     ∧ (t.ring i).produced = (s.ring i).produced + 1#16 ∧ (t.ring i).consumed = (s.ring i).consumed
     ∧ (t.ring i).unread = (s.ring i).unread + 1
     ∧ (∀ k, k ≠ i → t.ring k = s.ring k) ∧ QueueItem.write (.entryPlace i place) ∈ t.port.queue ∧ NoticeRight t)
  ∧ (∀ (i : RingId) (body : EntryBody) (tag : Nat) (s : State), (s.ring i).unread = i.capacity → RingsBounded s →
       NoticeRight s →
       let place := ((s.ring i).produced - 1#16).toNat % i.capacity
       let t := produce i body tag s
       (t.ring i).places[place]? = some ⟨body, true, tag, s.time⟩
       ∧ (∀ k, k ≠ place → (t.ring i).places[k]? = (s.ring i).places[k]?)
       ∧ (t.ring i).produced = (s.ring i).produced ∧ (t.ring i).unread = i.capacity ∧ (∀ k, k ≠ i → t.ring k = s.ring k)
       ∧ t.port.queue = (if QueueItem.write (.entryPlace i place) ∈ s.port.queue then s.port.queue
           else s.port.queue ++ [.write (.entryPlace i place)])
       ∧ recordBytes t (.entryPlace i place) = Entry.bytes ⟨body, true, tag, s.time⟩
       ∧ ∀ body' tag', (produce i body' tag' t).ring i
           = { t.ring i with places := (s.ring i).places.set place ⟨body', true, tag', s.time⟩ })

/-- R68, R69: a lane that goes on with a temperature T takes the candidate band, or keeps the current band within its
margin of 10 tenths; the clamp flags describe T against the whole range. -/
def Obligations.LaneTakesItsBand : Prop :=
  ∀ (i : Fin 16) (l : Lane) (t : Int) (fault : Bool) (s : State) (x : WaveSet), s.wave.set = some x →
    0 < x.bandCount → x.edges.length = x.bandCount → ascending x.edges = true → x.edges.getLastD 0 < x.upper →
    ∃ c b, (if t < x.lower 0 then c = 0
        else if x.upper ≤ t then c = x.bandCount - 1
        else c < x.bandCount ∧ x.lower c ≤ t ∧ t < x.upperOf c)
      ∧ (match s.wave.band with
          | none => b = c
          | some k => if c = k ∨ x.lower k - 10 ≤ t ∧ t < x.upperOf k + 10 then b = k else b = c)
      ∧ (laneWithTemp i l t fault s).wave.band = some b
      ∧ ∃ l', (laneWithTemp i l t fault s).lane i = some l' ∧ l'.upd.band = some b ∧ l'.state = .latch
        ∧ l'.upd.flags.coldClamp = (l.upd.flags.coldClamp || decide (t < x.lower 0))
        ∧ l'.upd.flags.hotClamp = (l.upd.flags.hotClamp || decide (x.upper ≤ t))

/-- R71, R82: the effective mode of a lane. -/
def Obligations.LaneResolvesItsMode : Prop :=
  ∀ (s : State) (u : UpdateRecord) (band : Nat) (f : UpdateFlags) (x : WaveSet), s.wave.set = some x →
    let usable := fun m : Nat =>
      0 < x.frames m band ∧ (m = x.cleanMode ∨ ¬ (s.wave.coldLock = true ∧ (x.mode m).coldBarred = true))
    ∃ e, ((usable u.requested ∧ e = u.requested)
        ∨ (¬ usable u.requested ∧ usable x.fallback ∧ e = x.fallback)
        ∨ (¬ usable u.requested ∧ ¬ usable x.fallback ∧ e = x.cleanMode))
      ∧ ∃ m, m = (if s.drive.mirrorKnown = false ∧ x.isPartial e = true then x.cleanMode else e)
        ∧ let ghost : Prop := x.isPartial m = true ∧
            ∃ p ∈ u.rect.places, s.drive.settings.ghostLimit < sparseGet 0 s.drive.ghost p + (x.mode m).weight
          let v := resolveLane s u band f
          v.requested = u.requested ∧ v.band = some band
          ∧ (v.flags.substituted = true ↔ f.substituted = true ∨ m ≠ u.requested)
          ∧ (ghost → v.effective = some x.cleanMode ∧ v.flags.ghostPromoted = true)
          ∧ (¬ ghost → v.effective = some m ∧ v.flags.ghostPromoted = f.ghostPromoted)

/-- R144: what a THERM conversion leaves, by the thermistor table of eight points in force. -/
def Obligations.ThermistorConversion : Prop :=
  ∀ (p : Sampler) (code : Nat) (now : Time), code ≤ 1023 → p.therm.length = 8 → thermTableOk p.therm = true →
    let q := p.completed .therm code now
    let c := fun i : Nat => ((p.therm.getD i (0, 0)).1 : Int)
    let t := fun i : Nat => (p.therm.getD i (0, 0)).2
    (code = 0 ∨ code = 1023 →
      q.thermFault = true ∧ q.chans.therm.value = p.chans.therm.value ∧ q.beforeDeep = p.beforeDeep)
    ∧ (0 < code ∧ code < 1023 →
      q.thermFault = false ∧ q.beforeDeep = false
      ∧ ∃ v, q.chans.therm.value = some (v, now)
        ∧ ((code : Int) ≤ c 0 → v = t 0) ∧ (c 7 ≤ (code : Int) → v = t 7)
        ∧ ∀ i < 7, c i ≤ (code : Int) ∧ (code : Int) < c (i + 1) →
            v = t i + ((t (i + 1) - t i) * ((code : Int) - c i)).tdiv (c (i + 1) - c i))

/-- R150, R151, R152: a watch meets an event. Its action reaches the cold lock (R70) or the battery state, with the BATTERY
entry and, for CRITICAL, the departure (R177, R178), and wakes the part from NAP (R176). -/
def Obligations.WatchMeetsAnEvent : Prop :=
  ∀ (e : WatchEvent) (v : Int) (s : State) (i : Fin 8),
    let w := s.watches[i]
    let t := evaluateWatch e v s i
    let d := if w.periodBits = 0 then v - w.origin else (v - w.origin) % (2 ^ w.periodBits : Nat)
    let inside := decide (0 ≤ d ∧ (if w.strict then d < w.margin else d ≤ w.margin))
    let result := if inside then WatchLast.true else WatchLast.false
    let acts := decide (w.mode ≠ .edge ∨ (w.last ≠ .unset ∧ w.last ≠ result))
    (w.mode = .off ∨ w.event ≠ e → t = s)
    ∧ (w.mode ≠ .off → w.event = e →
        t.watches[i] = { w with
          latch := if inside then v else w.latch
          last := result
          mode := if w.mode = .once then .off else w.mode
          acts := if acts then w.acts + 1#16 else w.acts }
        ∧ (∀ k, k ≠ i → t.watches[k] = s.watches[k])
        ∧ (t.ring .watch).placed =
            (if acts && w.report then
              (s.withEntry .watch (.watch i e inside (if inside then w.onTrue else w.onFalse) v)
                (w.acts + 1#16).toNat).ring .watch
            else s.ring .watch).placed
        ∧ (let a := if acts then (if inside then w.onTrue else w.onFalse) else .none
           let old := s.power.battery
           let new : Battery := if a = .battCritical then .critical
             else if a = .battLow ∧ old = .normal then .low
             else if a = .battNormal ∧ old = .low then .normal
             else old
           let turns : Prop := new = .critical ∧ old ≠ .critical
           let wakes : Prop := a ≠ .none ∧ s.power.state = .nap
           let u := if new = old then s else s.withEntry .power (.battery old new (.watch i)) 0
           let departs := fun phase => (t.ring .power).placed
             = ((u.withEntry .power (.departure .critical phase s.power.grace .critical) 0).ring .power).placed
           let phase : DepartPhase := if s.power.grace = 0 then .drain else .grace
           t.wave.coldLock = (if a = .coldOn then true else if a = .coldOff then false else s.wave.coldLock)
           ∧ t.power.battery = new
           ∧ (a = .none → t.power = s.power ∧ t.light = s.light)
           ∧ (wakes → t.power.lastWake = .watch ∧ t.light.running = true
               ∧ t.port.retention = (match s.port.retention with
                 | .serving | .entering => .serving
                 | .retained | .leaving => .leaving))
           ∧ (¬ wakes → t.power.lastWake = s.power.lastWake)
           ∧ (¬ turns → t.power.reason = s.power.reason ∧ (t.ring .power).placed = (u.ring .power).placed
               ∧ (¬ wakes → t.power.state = s.power.state)
               ∧ (wakes → t.power.state = .doze ∧ t.power.release = none
                   ∧ t.power.napTimer = if s.power.napAfter = 0 then none
                     else some (s.time + BitVec.ofNat 32 s.power.napAfter)))
           ∧ (turns → s.power.restarting = false →
               (s.power.state = .active ∨ s.power.state = .doze ∨ s.power.state = .nap →
                 t.power.state = .departing phase ∧ t.power.reason = .critical ∧ departs phase)
               ∧ (∀ p, s.power.state = .departing p →
                 t.power.state = .departing p ∧ t.power.reason = .critical
                 ∧ (s.power.reason ≠ .critical → departs p)))))

/-- R166: one settlement of a check group, by its entry's state, its kind and its check. -/
def Obligations.GroupIsSettled : Prop :=
  ∀ (g : CheckGroup) (s : State),
    let d := s.download g.entry
    let t := settleGroup g s
    let place := sparseGet .missing d.map g.index
    let e := t.download g.entry
    let tells := fun body tag => (t.ring .intake).placed = ((s.withEntry .intake body tag).ring .intake).placed
    (d.state ≠ .openState → (t.ring .intake).placed = (s.ring .intake).placed ∧ e.map = d.map ∧ e.good = d.good
      ∧ e.bad = d.bad ∧ e.state = d.state)
    ∧ (d.state = .openState → g.kind = .copy → g.crc = g.check →
        e.map = sparseSet .missing d.map g.index .good ∧ e.good = d.good + 1
        ∧ e.bad = (if place = .bad then d.bad - 1 else d.bad)
        ∧ e.lastLength = (if g.index + 1 = d.chunkCount then g.length else d.lastLength)
        ∧ (d.good + 1 = d.chunkCount → e.state = .complete
            ∧ tells (.bookComplete d.tag ((d.chunkCount - 1) * d.chunkSize + e.lastLength)) g.entry.val)
        ∧ (d.good + 1 ≠ d.chunkCount → e.state = .openState ∧ (t.ring .intake).placed = (s.ring .intake).placed))
    ∧ (d.state = .openState → (g.kind = .copy ∧ g.crc ≠ g.check ∨ g.kind = .length) →
        e.map = (if place = .missing then sparseSet .missing d.map g.index .bad else d.map)
        ∧ e.bad = (if place = .missing then d.bad + 1 else d.bad) ∧ e.good = d.good ∧ e.state = .openState
        ∧ tells (.chunkBad d.tag g.entry (if g.crc = g.check then .length else .crc) e.bad) g.index)
    ∧ (d.state = .openState → g.kind = .abort → e.map = d.map ∧ e.good = d.good ∧ e.bad = d.bad
        ∧ (g.crc = g.check → e.state = .aborted
            ∧ tells (.bookAborted d.tag d.good d.chunkCount) g.entry.val)
        ∧ (g.crc ≠ g.check → e.state = .openState
            ∧ tells (.chunkBad d.tag g.entry .crc d.bad) g.index))

/-! ## Resets -/

/-- R18, R182: power-on reset and pin reset. Where a value rests on the model and not on a rule: memory reads 0 after
power-on (log 4), the input pins keep their levels (log 5), a burst that a pin reset cuts has transferred the n bytes that
PIN_RESET carries (log 10), a pin reset is in SERVING at once (log 15), the latch search starts at lane 0 (log 16), and the
fields that only remember are empty and 0 (log 22). -/
def Obligations.ResetsStartThePartAfresh : Prop :=
  ∀ s : State,
    let fresh := fun (m : Memory) (t : State) =>
      t.fixed = { State.reset.fixed with
        pending := s.pending
        mem := m
        good := s.rail.good
        settled := (s.input.phaseA.raw, s.input.phaseB.raw, 0) }
      ∧ t.power.state = .init ∧ t.link = State.reset.link ∧ t.request = ⟨[], none⟩ ∧ t.report = State.reset.report
      ∧ t.drive = State.reset.drive ∧ t.slot = State.reset.slot ∧ t.intake = State.reset.intake
      ∧ t.light = State.reset.light ∧ t.watches = State.reset.watches ∧ t.port.retention = .serving
      ∧ t.rail = { State.reset.rail with good := s.rail.good } ∧ t.input.keyMap = State.reset.input.keyMap
    Answers .powerOnReset s (fresh [])
    ∧ ∀ n ≤ 2048, Answers (.pinReset n) s (fresh (match s.port.burst with
        | some b => writeCells s.mem (b.writes.take n)
        | none => s.mem))

/-- R7, R13: a link reset ends the transaction; drops of a data phase are counted, each area once. -/
def Obligations.LinkResetEndsTheTransaction : Prop :=
  ∀ s : State, Steady s → Answers .linkReset s fun t =>
    match s.link.phase with
    | .idle | .off => t.steady = s.steady ∧ t.link.phase = s.link.phase
    | .held _ | .claiming _ => t.steady = s.steady ∧ t.link.phase = .idle
    | .data x =>
      t.link.phase = .idle
      ∧ (x.dropped = [] → t.steady = s.steady)
      ∧ (x.dropped ≠ [] → x.dropped.Nodup →
          let up := fun (k : DropKind) (n : Nat) => if k ∈ x.dropped then min (n + 1) 65535 else n
          t.steady = { s.steady with fixed := { s.fixed with guard :=
            ⟨up .assembly s.guard.assembly, up .mirror s.guard.mirror, up .waveform s.guard.waveform,
              up .control s.guard.control, up .malformed s.guard.malformed,
              x.firstDrop.getD s.guard.lastDropped⟩ } })

/-! ## The link -/

/-- R3: configuration transactions are answered from the fixed profile and change nothing; R2: a discarded header changes
nothing. A transaction is also activity (R173). -/
def Obligations.ConfigurationIsAnswered : Prop :=
  ∀ (index data : Nat) (s : State), s.power.restarting = false →
    Answers .discardedHeader s (fun t => t.fixed = s.fixed)
    ∧ (s.link.phase = .idle → s.power.state ≠ .nap → s.power.state ≠ .departing .grace →
        Answers (.configRead index) s (fun t => t.power.activityTime = s.time ∧ t.fixed = { s.fixed with configAnswer :=
          match index with
          | 0 => 32
          | 1 => 2048
          | 2 => 2
          | 3 => 1
          | 4 => 1
          | _ => 0 })
        ∧ Answers (.configWrite index data) s (fun t => t.power.activityTime = s.time ∧ t.fixed = s.fixed))

/-- R173, R175, R176, R178: what an upstream transaction, taken by an idle link, does in DOZE, in NAP and in the grace
phase of a departure. R112, R114, R138, R142, R153, R177, R180: a press edge wakes the part from NAP into DOZE, and the
POWER key's wakes it from DEEP into ACTIVE. That a press returns the repeat index to 0 is the model's choice (log 35),
and so is that the wake leaves the prescaler in use as it was (log 45). -/
def Obligations.TransactionsAndKeysWakeThePart : Prop :=
  (∀ (i : Instr) (s : State),
     (∃ a w, headerLengthOk w = true ∧ (i = .read a w ∨ i = .write a w)) ∨ (∃ n, i = .configRead n)
       ∨ (∃ n d, i = .configWrite n d) →
     s.link.phase = .idle → s.power.restarting = false →
     (s.power.state = .nap → Answers i s fun t =>
       t.power.state = .active ∧ t.power.lastWake = .transaction ∧ t.power.release = none ∧ t.light.running = true
       ∧ t.power.activityTime = s.time)
     ∧ (s.power.state = .doze → Answers i s fun t =>
       t.power.state = .active ∧ t.power.lastWake = s.power.lastWake ∧ t.power.release = none
       ∧ t.power.activityTime = s.time)
     ∧ (s.power.state = .departing .grace → s.power.reason = .timer → Answers i s fun t =>
       t.power.state = .active ∧ t.power.graceTimer = none
       ∧ (t.ring .power).placed =
           ((s.withEntry .power (.departureCancelled .timer s.power.graceBegan) 0).ring .power).placed)
     ∧ (s.power.state = .departing .grace → s.power.reason ≠ .timer → Answers i s fun t =>
       t.power.state = .departing .grace ∧ t.power.reason = s.power.reason
       ∧ (t.ring .power).placed = (s.ring .power).placed))
  ∧ (∀ (k : Key) (s : State), s.power.restarting = false →
       let x := s.input.keys.get k
       x.timer ≠ none → x.raw = true →
       (s.power.state = .nap → x.gesture = .released → Answers (.keyDebounceExpiry k) s fun t =>
         t.fixed = { s.fixed with lastWake := .key, counter := (0, s.light.prescaler) }
         ∧ t.power.state = .doze ∧ t.power.release = none
         ∧ t.light.running = true
         ∧ t.port.retention = (match s.port.retention with
             | .serving | .entering => .serving
             | .retained | .leaving => .leaving)
         ∧ t.input.keys = s.input.keys.set k { x with
             debounced := true
             timer := none
             gesture := .pressed
             pressTime := s.time
             woke := true
             repeatIndex := 0
             holdTimer := some (s.time + BitVec.ofNat 32 s.input.hold) })
       ∧ (s.power.state = .deep → k = .power → s.port.retention = .retained → Answers (.keyDebounceExpiry k) s fun t =>
         let u := s.withEntry .power (.wake s.power.deepEntered) 0
         let v := if s.power.battery = .normal then u
           else u.withEntry .power (.battery s.power.battery .normal .wake) 0
         t.fixed = { v.fixed with
           lastWake := .powerKey
           battery := .normal
           counter := (0, s.light.prescaler)
           settled := (s.input.phaseA.raw, s.input.phaseB.raw, 0)
           wheel := (s.input.position, s.input.skips, 0, s.input.wheelRecord) }
         ∧ t.power.state = .active ∧ t.port.retention = .leaving ∧ t.link.phase = .idle ∧ t.light.running = true
         ∧ t.sampler.converter ≠ .stopped ∧ (t.input.keys.get .power).gesture = .wakeHeld
         ∧ ∀ i : Fin 8, t.watches[i] = if s.watches[i].mode = .edge then { s.watches[i] with last := .unset }
             else s.watches[i]))

/-- R2, R5, R11: a READ or WRITE header begins a transaction, held while the copy buffer or the request FIFO has no room
for what it carries. -/
def Obligations.HeaderBeginsATransaction : Prop :=
  ∀ (isWrite : Bool) (a : BitVec 24) (words : Nat) (s : State), s.link.phase = .idle → Awake s → 1 ≤ words →
    words ≤ 1024 →
    let start := 2 * a.toNat
    let len := 2 * words
    let inPage := fun base size => min (start + len) (base + size) - max start base
    let records := inPage 0x1F81000 0x1000
    let ok := decide (records = 0 ∨ (max start 0x1F81000 % 32 = 0 ∧ records % 32 = 0 ∧ records ≤ 512))
    let x : Txn := ⟨isWrite, start, len, 0, ok, false, false, [], [], none⟩
    let held : Prop := isWrite = true ∧
      ((1 ≤ inPage 0x1F00000 0x80000 ∧ 4096 - s.intake.fill < inPage 0x1F00000 0x80000)
        ∨ (ok = true ∧ 16 - s.request.fifo.length < records / 32))
    Answers (if isWrite then .write a words else .read a words) s fun t =>
      t.fixed = { s.fixed with sent := if isWrite then s.link.sent else [] } ∧ t.power.activityTime = s.time
      ∧ (held → t.link.phase = .held x)
      ∧ (¬ held → t.link.phase = .claiming x ∨ t.link.phase = .data x)

/-- R2, R9, R13: the next byte of a WRITE in an area that no block snoops is passed to memory or dropped, and the last one
ends the transaction. -/
def Obligations.HostByteIsPassedOrDropped : Prop :=
  ∀ (b : Byte) (s : State) (x : Txn), Steady s → s.link.phase = .data x → x.isWrite = true → x.pos < x.len →
    unsnooped x.portionOk (areaOf x.here) = true →
    let drop := dropOf s x.portionOk x.here
    let m := if drop = none then writeByte s.mem x.here b else s.mem
    let y : Txn := match drop with
      | none => { x with pos := x.pos + 1 }
      | some k => { x with
          pos := x.pos + 1
          dropped := if k ∈ x.dropped then x.dropped else x.dropped ++ [k]
          firstDrop := some (x.firstDrop.getD x.here) }
    Answers (.hostWriteByte b) s fun t =>
      (Memory.wf s.mem = true → ∀ a < Config.memSize,
        readByte t.mem a = if a = x.here ∧ drop = none then b else readByte s.mem a)
      ∧ (y.pos < y.len → t.link.phase = .data y ∧ t.steady = { s.steady with fixed := { s.fixed with mem := m } })
      ∧ (y.pos = y.len → t.link.phase = .idle ∧ t.steady = { s.steady with fixed := { s.fixed with
          mem := m
          guard := if y.dropped = [] then s.guard else s.guard.after y } })

/-- R40, R41: a byte written into a slot reaches memory, marks its tile, and empties a READY slot that is not SHOWN. -/
def Obligations.SlotByteMarksItsTile : Prop :=
  ∀ (b : Byte) (s : State) (x : Txn) (n : Fin 4), s.power.restarting = false → WritesAt s x (.slot n) →
    x.dropped = [] →
    let o := x.here - (0x1400000 + n.val * 0x180000)
    let y := o / 1024
    let c := o % 1024
    let slot := s.slotAt n
    let place := 64 * (y / 32) + c / 16
    let marked := { slot with dirty := if slot.dirty.contains place then slot.dirty else setInsert slot.dirty place }
    let u := s.setMem (writeByte s.mem x.here b)
    Answers (.slotByteWrite b) s fun t =>
      (¬ (2 * c + 1 < s.drive.settings.width ∧ y < s.drive.settings.height) → t.fixed = u.fixed)
      ∧ (2 * c + 1 < s.drive.settings.width ∧ y < s.drive.settings.height →
          (slot.role = .shown ∨ slot.ready = false → t.fixed = (u.setSlotAt n marked).fixed)
          ∧ (slot.role ≠ .shown → slot.ready = true →
              t.fixed = ((u.setSlotAt n { marked with ready := false, tag := 0 }).withEntry .input
                (.slotEmptied n slot.role .write slot.tag) 0).fixed))

/-- R158 to R163: a byte of the intake ring reaches memory and the parser and advances the cursor, or begins with a break.
The 12th header byte decides the chunk's kind, with its counts and its place in flight; the 4th check byte forms the check
group, which is settled at once where nothing stands before it (R166). A header never leads to SYNC-EXPECT, and a break names
no entry for a chunk turned IGNORE, as the model reads the rules (logs 37 and 38). The index of a STREAM-BREAK that discarded
no chunk is 0 by the model's choice (log 18). -/
def Obligations.IntakeByteIsParsed : Prop :=
  ∀ (b : Byte) (s : State) (x : Txn), Steady s → WritesAt s x .intake → x.dropped = [] →
    let offset := x.here - 0x1F00000
    let goes : Prop := x.intakeJudged = true ∨ offset = s.intake.cursor
    let p := s.intake.parser
    let losses := min (s.intake.syncLosses + 1) 65535
    let breaks := min (s.intake.breaks + 1) 65535
    Answers (.intakeByteWrite b) s fun t =>
      t.mem = writeByte s.mem x.here b ∧ t.intake.cursor = (offset + 1) % 524288
      ∧ (¬ goes →
          t.intake.parser = .hunt [b] ∧ t.intake.breaks = breaks
          ∧ (t.ring .intake).placed = ((s.withEntry .intake
              (.streamBreak s.intake.cursor offset p.inParse p.discarded.1 p.discarded.2) breaks).ring .intake).placed)
      ∧ (goes → t.intake.breaks = s.intake.breaks
        ∧ (∀ w, p = .hunt w → t.intake.entries = s.intake.entries ∧ t.intake.parser =
            if lastOf 4 (w ++ [b]) = [0xD4#8, 0x7B#8, 0x19#8, 0xE2#8] then .header [] else .hunt (lastOf 3 (w ++ [b])))
        ∧ (∀ got, p = .header got → got.length < 11 →
            t.intake.entries = s.intake.entries ∧ t.intake.parser = .header (got ++ [b]))
        ∧ (∀ c, p = .payload c →
            let c1 := { c with taken := c.taken + 1, crc := if c.kind = .ignore then c.crc else crcByte c.crc b }
            let d := s.download c.entry
            t.intake.entries = s.intake.entries
            ∧ t.intake.parser = (if c.taken + 1 = c.length then .check c1 [] else .payload c1)
            ∧ (s.port.burst.isSome = true → x.pos + 1 < x.len → t.intake.buffer =
                s.intake.buffer ++ (if c.kind = .copy then
                  [.payload c.entry (0x0C00000 + d.offset + c.index * d.chunkSize + c.taken) b] else [])))
        ∧ (∀ c got, p = .check c got → got.length < 3 →
            t.intake.entries = s.intake.entries ∧ t.intake.parser = .check c (got ++ [b]))
        ∧ (∀ got, p = .header got → got.length = 11 →
            let h := got ++ [b]
            let tag := argU32 h 0
            let index := argU16 h 4
            let length := argU16 h 6
            let flags := argU16 h 8
            let counts := (s.intake.headerErrors, s.intake.syncLosses, s.intake.breaks, s.intake.unknown, s.intake.outOfRange)
            let holds := fun e : Fin 4 => (s.download e).state ≠ .free ∧ (s.download e).tag = tag
            let goesOn := fun c : Chunk => t.intake.parser = if length = 0 then .check c [] else .payload c
            let ignored : Prop := ∃ c, goesOn c ∧ c.kind = .ignore ∧ c.length = length ∧ c.taken = 0
            let taken := fun (k : ChunkKind) (e : Fin 4) => goesOn ⟨k, e, index, length, 0, crcFeed crcStart h⟩
            let wrong : Prop := 32768 < length ∨ 1 < flags ∨ (flags = 1 ∧ length ≠ 0)
            let unknown : Prop := ignored ∧ t.intake.entries = s.intake.entries
              ∧ t.fixed.counts = (s.intake.headerErrors, s.intake.syncLosses, s.intake.breaks,
                  min (s.intake.unknown + 1) 65535, s.intake.outOfRange)
            (wrong → t.intake.parser = .hunt [] ∧ t.intake.entries = s.intake.entries
              ∧ t.fixed.counts = (min (s.intake.headerErrors + 1) 65535, counts.2))
            ∧ (¬ wrong → (∀ e, ¬ holds e) → unknown)
            ∧ (¬ wrong → ∀ e, holds e → (∀ k, holds k → k = e) →
                let d := s.download e
                let last := index + 1 = d.chunkCount
                let again : Prop := ignored ∧ t.fixed.counts = counts
                  ∧ t.intake.entries = s.intake.entries.set e { d with duplicates := min (d.duplicates + 1) 65535 }
                let held : Prop := sparseGet .missing d.map index = .good ∨ index ∈ d.inFlight
                let fits : Prop := (last → 1 ≤ length ∧ length ≤ d.chunkSize) ∧ (¬ last → length = d.chunkSize)
                let joins : Prop := t.fixed.counts = counts
                  ∧ t.intake.entries = s.intake.entries.set e { d with inFlight := setInsert d.inFlight index }
                (d.state = .aborted → unknown)
                ∧ (d.state = .complete → again)
                ∧ (d.state = .openState →
                    (flags = 1 → taken .abort e ∧ t.intake.entries = s.intake.entries ∧ t.fixed.counts = counts)
                    ∧ (flags = 0 → d.chunkCount ≤ index → ignored ∧ t.intake.entries = s.intake.entries
                        ∧ t.fixed.counts = (s.intake.headerErrors, s.intake.syncLosses,
                          s.intake.breaks, s.intake.unknown, min (s.intake.outOfRange + 1) 65535))
                    ∧ (flags = 0 → index < d.chunkCount → held → again)
                    ∧ (flags = 0 → index < d.chunkCount → ¬ held → ¬ fits → taken .length e ∧ joins)
                    ∧ (flags = 0 → index < d.chunkCount → ¬ held → fits → taken .copy e ∧ joins))))
        ∧ (∀ c got, p = .check c got → got.length = 3 →
            let g : CheckGroup := ⟨c.entry, c.index, c.kind, c.length, crcEnd c.crc, BitVec.ofNat 32 (leValue (got ++ [b]))⟩
            t.intake.parser = .syncExpect []
            ∧ (c.kind = .ignore → t.intake.entries = s.intake.entries
                ∧ (t.ring .intake).placed = (s.ring .intake).placed)
            ∧ (c.kind ≠ .ignore → s.intake.buffer = [] → s.intake.copying = 0 →
                t.intake.entries = (settleGroup g s).intake.entries ∧ t.intake.buffer = []
                ∧ (t.ring .intake).placed = ((settleGroup g s).ring .intake).placed)
            ∧ (c.kind ≠ .ignore → s.intake.copying ≠ 0 ∨ (∃ e a v rest, s.intake.buffer = .payload e a v :: rest) →
                t.intake.entries = s.intake.entries ∧ (t.ring .intake).placed = (s.ring .intake).placed
                ∧ (s.port.burst.isSome = true → x.pos + 1 < x.len → t.intake.buffer = s.intake.buffer ++ [.group g])))
        ∧ (∀ got, p = .syncExpect got → t.intake.entries = s.intake.entries
            ∧ (got ++ [b] ≠ Config.sync.take (got.length + 1) →
                t.intake.parser = .hunt (lastOf 3 (got ++ [b])) ∧ t.intake.syncLosses = losses)
            ∧ (got ++ [b] = Config.sync.take (got.length + 1) → t.intake.syncLosses = s.intake.syncLosses
                ∧ t.intake.parser = if got.length = 3 then .header [] else .syncExpect (got ++ [b]))))

/-- R12, R19: bytes of a request record reach memory, and the record joins the FIFO's tail with its 32nd byte. -/
def Obligations.RequestRecordJoinsTheFifo : Prop :=
  ∀ (bytes : List Byte) (s : State) (x : Txn), Steady s → WritesAt s x .request → x.portionOk = true →
    x.dropped = [] → bytes ≠ [] → (x.partialRecord ++ bytes).length ≤ 32 →
    (∀ k < bytes.length, areaOf ((x.addr + x.pos + k) % Config.memSize) = .request) →
    let record := x.partialRecord ++ bytes
    Answers (.requestRecordReceive bytes) s fun t =>
      t.steady = { s.steady with fixed := { s.fixed with
        mem := writeCells s.mem (cellsAt x.here bytes)
        fifo := if record.length = 32 then s.request.fifo ++ [record] else s.request.fifo } }
      ∧ t.link.phase = (if x.pos + bytes.length < x.len then
          .data { x with
            pos := x.pos + bytes.length
            partialRecord := if record.length = 32 then [] else record }
        else .idle)

/-- R30: a word written at a ring's consumer word is taken against the ring's P and C; a word elsewhere in the page, but
for the notice-done word, has no effect; the word reaches memory in every case. -/
def Obligations.ConsumerWordsAreTaken : Prop :=
  ∀ (v : Word16) (s : State) (x : Txn), s.power.restarting = false → WritesAt s x .hostWords → x.dropped = [] →
    x.here % 2 = 0 →
    let offset := x.here - 0x1F82000
    let m := writeCells s.mem [(x.here, BitVec.ofNat 8 v.toNat), (x.here + 1, BitVec.ofNat 8 (v.toNat / 256))]
    (∀ i : RingId, offset = 2 * (i.id - 1) →
      let r := s.ring i
      let a := (v - r.consumed).toNat
      let c := if a ≤ r.unread then v else if a ≤ 32768 then r.produced else r.consumed
      Answers (.consumerWordWrite v) s fun t =>
        t.fixed = ((s.setMem m).setRing i { r with consumed := c }).fixed ∧ NoticeRight t)
    ∧ (12 ≤ offset → offset ≠ 16 → Answers (.hostWordsOtherWrite v) s fun t =>
        t.fixed = { s.fixed with mem := m })

/-- R34, R35: sending the notice word upstream pushes the source it names, where the stack can take it; a write of the
notice-done word pops the top. -/
def Obligations.NoticeIsPushedAndPopped : Prop :=
  ∀ (s : State) (x : Txn), s.power.restarting = false → x.dropped = [] →
    (Reads s x → x.addr + x.pos ≤ 0x1F8C040 → 0x1F8C042 ≤ x.addr + x.len →
      let value := RingId.ofId (readValue s.mem 0x1F8C040 2)
      let n := 0x1F8C042 - (x.addr + x.pos)
      Answers .noticeWordRead s fun t =>
        t.fixed = { s.fixed with
          sent := s.link.sent ++ readBytes s.mem (x.addr + x.pos) n
          stack := match value with
            | none => s.report.stack
            | some i =>
              if s.report.stack.contains i then s.report.stack
              else match s.report.stack with
                | [] => [i]
                | top :: rest => if i.id < top.id then i :: top :: rest else top :: rest }
        ∧ (NoticeRight s → NoticeRight t))
    ∧ (WritesAt s x .hostWords → x.here = 0x1F82010 → ∀ v : Word16,
      Answers (.noticeDoneWrite v) s fun t =>
        t.fixed = { s.fixed with
          mem := writeCells s.mem [(0x1F82010, BitVec.ofNat 8 v.toNat), (0x1F82011, BitVec.ofNat 8 (v.toNat / 256))]
          stack := s.report.stack.tail }
        ∧ NoticeRight t)

/-! ## The memory port -/

/-- R2, R15: the end of a burst of the part lands its bytes and touches no other byte of memory; the end of a READ's
burst sends the bytes not yet sent. That the bytes land at the burst's end is the model's choice (log 10). -/
def Obligations.BurstEndLandsItsBytes : Prop :=
  ∀ (s : State) (b : Burst), s.power.restarting = false → s.port.burst = some b →
    (b.kind = .recordWrite ∨ b.kind = .tableRead ∨ b.kind = .latchWrite ∨ (∃ i, b.kind = .frameRead i)
        ∨ b.kind = .completion ∨ (b.kind = .copy ∧ ∀ g rest, s.intake.buffer ≠ .group g :: rest) →
      Answers .memoryBurstEnd s fun t =>
        t.fixed = { s.fixed with mem := writeCells s.mem b.writes }
        ∧ (Memory.wf s.mem = true → ∀ a < Config.memSize, (∀ c ∈ b.writes, c.1 % Config.memSize ≠ a) →
            readByte t.mem a = readByte s.mem a))
    ∧ (∀ x, b.kind = .passThrough → Reads s x → noticeAhead x = false → x.dropped = [] →
      Answers .memoryBurstEnd s fun t =>
        t.fixed = { s.fixed with sent := s.link.sent ++ readBytes s.mem (x.addr + x.pos) (x.len - x.pos) })

/-- R17: the memory enters retention when the port is idle, and its exit ends in SERVING, or in ENTERING when retention
has been asked for again. -/
def Obligations.RetentionFollowsTheMemory : Prop :=
  ∀ s : State, Steady s →
    Answers .memoryRetentionEntered s (fun t => t.steady = { s.steady with retention :=
      if s.port.retention = .entering && s.port.burst.isNone && [1, 2, 3, 4, 5, 6].all (fun c => !claimWaits s c)
      then .retained else s.port.retention })
    ∧ Answers .memoryExitComplete s (fun t => t.steady = { s.steady with retention :=
      if s.port.retention = .leaving then
        (if s.power.state = .nap ∨ s.power.state = .deep then .entering else .serving)
      else s.port.retention })

/-- R83: the read burst of a tile ends: its dirty flag in the source slot clears and its ghost count takes the mode's
weight, or 0 in a CLEAN mode. -/
def Obligations.LatchTakesTheTile : Prop :=
  ∀ (s : State) (i : Fin 16) (l : Lane) (cells : List Host.Cell) (x : WaveSet), s.power.restarting = false →
    s.port.burst = some ⟨.latchRead i, cells⟩ → cells = [] → s.lane i = some l → l.state = .latch → l.step = .reading →
    s.wave.set = some x →
    let place := l.upd.rect.places.getD l.tile 0
    let mode := l.upd.effective.getD 0
    let slot := s.slotAt l.upd.source
    let old := sparseGet 0 s.drive.ghost place
    Answers .memoryBurstEnd s fun t =>
      t.fixed = (s.setSlotAt l.upd.source { slot with dirty := slot.dirty.filter (· ≠ place) }).fixed
      ∧ t.drive.ghost = sparseSet 0 s.drive.ghost place
          (if x.isPartial mode then min (old + (x.mode mode).weight) s.drive.settings.ghostLimit else 0)

/-- R62, checks 1 to 3 as far as the header gives them: the header's burst ends. That the header is a burst of its own and
the descriptors come next is the model's cut of the reads (log 11), that the period is checked only after the descriptors is
its reading of R62 (log 26), and the failing table 0 of causes 1 to 3 is its choice (log 18). -/
def Obligations.LoadChecksTheHeader : Prop :=
  ∀ (s : State) (cells : List Host.Cell), s.power.restarting = false → NoUpdates s → s.wave.setState = .loading →
    s.wave.set = none → s.wave.load = some .header → s.port.burst = some ⟨.waveRead, cells⟩ → cells = [] →
    let modes := readValue s.mem 0x1D00008 1
    let bands := readValue s.mem 0x1D00009 1
    let clean := readValue s.mem 0x1D0000C 1
    let fallback := readValue s.mem 0x1D0000D 1
    let good : Prop := readValue s.mem 0x1D00000 4 = Config.waveMagic ∧ within 1 8 modes ∧ within 1 12 bands
      ∧ clean < modes ∧ fallback < modes
    let cause := if readValue s.mem 0x1D00000 4 ≠ Config.waveMagic then 1
      else if ¬ (within 1 8 modes ∧ within 1 12 bands) then 2 else 3
    Answers .memoryBurstEnd s fun t =>
      (good → t.fixed = { s.fixed with load := some .descriptors })
      ∧ (¬ good →
          t.fixed = { s.fixed with
            setState := .failed
            load := none
            lastResult := .failed
            failCause := cause
            failTable := 0 }
          ∧ (t.ring .display).placed = ((s.withEntry .display
              (.waveform .failed cause modes bands 0 0 (if cause = 1 then 0 else readValue s.mem 0x1D00004 4))
              s.wave.loadTag).ring .display).placed)

/-! ## Requests -/

/-- R20 to R23: every request that is decided at dispatch is taken, its owner decides on the state the take left, and its
reply ends its handling. -/
def Obligations.RequestsAreAnsweredAtDispatch : Prop :=
  ∀ (i : Instr) (owner : List Byte → State → State × Reply) (s : State) (r : List Byte), requestOwner i = some owner →
    Takes i s r → Answers i s fun t =>
      t.fixed = (owner r (takeRequest s)).1.fixed ∧ t.request = ⟨s.request.fifo.drop 1, none⟩
      ∧ Replied s t r (owner r (takeRequest s)).2

/-- R21: a code that names no request is refused BAD-CODE; R32: SET-NOTICE replaces the enables, or is refused. -/
def Obligations.BadCodeAndSetNotice : Prop :=
  ∀ (s : State) (r : List Byte),
    (Takes .requestBadCode s r → reqCode r ∉ requestCodes ∧ Answers .requestBadCode s fun t =>
      t.fixed = { s.fixed with fifo := s.request.fifo.drop 1 } ∧ Replied s t r (.refused .badCode))
    ∧ (Takes .setNotice s r →
      (64 ≤ argU8 r 4 → Answers .setNotice s fun t =>
        t.fixed = { s.fixed with fifo := s.request.fifo.drop 1 } ∧ Replied s t r (.refused .badArg))
      ∧ (argU8 r 4 < 64 → Answers .setNotice s fun t =>
        t.fixed = { s.fixed with
          fifo := s.request.fifo.drop 1
          taken := ringIds.map fun i => ((s.ring i).consumed, (argU8 r 4).testBit (i.id - 1)) }
        ∧ NoticeRight t ∧ t.request = ⟨s.request.fifo.drop 1, none⟩))

/-- R25: LOAD-TABLE of a table that does not exist is refused BAD-ARG; while the memory port is busy, or the memory is
outside SERVING, a table's read waits, with the request in hand and the owners' tables as they were. -/
def Obligations.TableLoadsWaitForTheirRead : Prop :=
  ∀ (i : Instr) (s : State) (r : List Byte), Takes i s r → reqCode r = 2 →
    (tableOfCode (argU8 r 4) = none → Answers i s fun t =>
      t.fixed = { s.fixed with fifo := s.request.fifo.drop 1 } ∧ Replied s t r (.refused .badArg))
    ∧ (∀ table, tableOfCode (argU8 r 4) = some table →
        (s.port.burst.isSome = true
          ∨ (s.port.retention ≠ .serving ∧ s.power.state ≠ .init
            ∧ ∀ k held, QueueItem.tableRead k held ∉ s.port.queue)) → Answers i s fun t =>
      t.fixed = { s.fixed with fifo := s.request.fifo.drop 1 } ∧ t.request = ⟨s.request.fifo.drop 1, some r⟩
      ∧ QueueItem.tableRead table (decide (s.port.retention ≠ .serving)) ∈ t.port.queue ∧ t.light.table = s.light.table ∧ t.input.keyMap = s.input.keyMap
      ∧ t.sampler.therm = s.sampler.therm ∧ t.watches = s.watches
      ∧ (t.ring .reply).placed = (s.ring .reply).placed)

/-- R25, R109, R136, R145, R149: at a quiet port the read is granted at once; the owner takes the table whole from memory
as it stands, or refuses it BAD-TABLE and keeps its own. -/
def Obligations.TablesReplaceTheOldOnes : Prop :=
  ∀ (s : State) (r : List Byte), Awake s → NoUpdates s → PortQuiet s →
    let u8 := fun page o : Nat => readValue s.mem (0x1F80000 + 0x1000 * page + o) 1
    let u16 := fun page o : Nat => readValue s.mem (0x1F80000 + 0x1000 * page + o) 2
    (Takes .loadTableLevels s r → tableOfCode (argU8 r 4) = some .levels → Answers .loadTableLevels s fun t =>
      t.light.table = (List.range 64).map (fun i => min 1000 (u16 3 (2 * i)))
      ∧ Replied s t r (.done { clamped := (List.range 64).any fun i => decide (1000 < u16 3 (2 * i)) } 0#32))
    ∧ (Takes .loadTableKeymap s r → Answers .loadTableKeymap s fun t =>
      ((∀ i < 12, u8 4 i ≤ 7) →
        (∀ i (h : i < 12), some (t.input.keyMap[i]) =
          if 6 ≤ i ∧ i ≤ 8 ∧ u8 4 i ∉ [0, 6, 7] then some .notify else KeyAction.ofCode (u8 4 i))
        ∧ Replied s t r (.done { clamped := [6, 7, 8].any fun i => decide (u8 4 i ∉ [0, 6, 7]) } 0#32))
      ∧ (¬ (∀ i < 12, u8 4 i ≤ 7) → t.input.keyMap = s.input.keyMap ∧ Replied s t r (.refused .badTable)))
    ∧ (Takes .loadTableThermistor s r → Answers .loadTableThermistor s fun t =>
      let rises : Prop := (∀ i < 7, u16 5 (4 * i) < u16 5 (4 * (i + 1))) ∧ u16 5 28 ≤ 1023
      (rises → t.sampler.therm = (List.range 8).map (fun i => (u16 5 (4 * i), signedOf 16 (u16 5 (4 * i + 2))))
        ∧ Replied s t r (.done {} 0#32))
      ∧ (¬ rises → t.sampler.therm = s.sampler.therm ∧ Replied s t r (.refused .badTable)))
    ∧ (Takes .loadTableWatches s r → Answers .loadTableWatches s fun t =>
      let good : Prop := ∀ n < 8, u8 6 (16 * n) ≤ 3 ∧ u8 6 (16 * n + 1) ≤ 3 ∧ u8 6 (16 * n + 2) ≤ 5
        ∧ u8 6 (16 * n + 3) ≤ 5
      (good → (∀ n : Fin 8,
          let w := t.watches[n]
          let o := 16 * n.val
          w.event.code = u8 6 o ∧ w.mode.code = u8 6 (o + 1) ∧ w.onTrue.code = u8 6 (o + 2)
          ∧ w.onFalse.code = u8 6 (o + 3) ∧ w.margin = readValue s.mem (0x1F86000 + o + 8) 4
          ∧ w.origin = signedOf 32 (readValue s.mem (0x1F86000 + o + 4) 4) ∧ w.periodBits = min 31 (u8 6 (o + 12))
          ∧ w.strict = (u8 6 (o + 13)).testBit 0 ∧ w.report = (u8 6 (o + 13)).testBit 1
          ∧ w.latch = 0 ∧ w.last = .unset ∧ w.acts = 0#16)
        ∧ Replied s t r (.done { clamped := (List.range 8).any fun n => decide (31 < u8 6 (16 * n + 12)) } 0#32))
      ∧ (¬ good → t.watches = s.watches ∧ Replied s t r (.refused .badTable)))

/-! ## Slots and turns -/

/-- R43 to R45: the refusals of a MARK in their order, and the content an accepted MARK leaves in a slot that is not SHOWN
when no pending turn is released. R44: a MARK of the SHOWN slot sets its content and empties the READY neighbours that no
longer fit. R45, R48 to R54: a MARK READY of AHEAD or BEHIND releases the oldest pending turn of its direction, which is
refused, or carried out with its origin and press time. AHEAD is tested before BEHIND by the model's order (log 9), a
released turn tells its own host tag (log 27), and a refused one leaves the MARK the reply of one that fired no turn
(log 29). -/
def Obligations.MarkSetsTheContent : Prop :=
  (∀ (s : State) (r : List Byte), Takes .mark s r → RolesApart s →
     let refused := fun reason => Answers .mark s fun t =>
       t.fixed = { s.fixed with fifo := s.request.fifo.drop 1 } ∧ Replied s t r (.refused reason)
     let shown := s.slotAt (s.slot.withRole .shown)
     let tag := argU32 r 8
     (3 < argU8 r 4 ∨ 1 < argU8 r 5 → refused .badArg)
     ∧ ∀ n : Fin 4, n.val = argU8 r 4 → argU8 r 5 ≤ 1 →
       let x := s.slotAt n
       let ready := argU8 r 5 = 1
       let fits : Prop := (x.role = .ahead ∧ tag = shown.tag + 1) ∨ (x.role = .behind ∧ tag + 1 = shown.tag)
       ((x.role = .ahead ∨ x.role = .behind) → ready → shown.ready = false → refused .emptySlot)
       ∧ ((x.role = .ahead ∨ x.role = .behind) → ready → shown.ready = true → ¬ fits → refused .badArg)
       ∧ ((x.role = .spare ∨ (x.role ≠ .shown ∧ (¬ ready ∨ (shown.ready = true ∧ fits
             ∧ (x.role = .ahead → s.slot.forward = []) ∧ (x.role = .behind → s.slot.back = []))))) →
           let content := if ready then (true, tag) else (false, 0)
           Answers .mark s fun t =>
             t.fixed = (s.dropRecord.setSlotAt n { x with ready := content.1, tag := content.2 }).fixed
             ∧ Replied s t r (.done { nothingToDo := decide ((x.ready, x.tag) = content) } 0#32)))
  ∧ (∀ (s : State) (r : List Byte) (n a b : Fin 4), Takes .mark s r → RolesApart s → (s.slotAt n).role = .shown →
       (s.slotAt a).role = .ahead → (s.slotAt b).role = .behind → n.val = argU8 r 4 → argU8 r 5 ≤ 1 →
       let ready := decide (argU8 r 5 = 1)
       let tag := if ready then argU32 r 8 else 0
       let u := s.dropRecord.setSlotAt n { s.slotAt n with ready := ready, tag := tag }
       let x := s.slotAt a
       let y := s.slotAt b
       let v := if x.ready ∧ ¬ (ready = true ∧ x.tag = tag + 1 ∧ tag + 1 < 2 ^ 32) then
           (u.setSlotAt a { x with ready := false, tag := 0 }).withEntry .input (.slotEmptied a .ahead .adjacency x.tag) 0
         else u
       let w := if y.ready ∧ ¬ (ready = true ∧ y.tag + 1 = tag) then
           (v.setSlotAt b { y with ready := false, tag := 0 }).withEntry .input (.slotEmptied b .behind .adjacency y.tag) 0
         else v
       Answers .mark s fun t =>
         t.fixed = w.fixed
         ∧ Replied s t r (.done { nothingToDo := decide (((s.slotAt n).ready, (s.slotAt n).tag) = (ready, tag)) } 0#32))
  ∧ (∀ (s : State) (r : List Byte) (n : Fin 4) (d : Dir) (p : PendingTurn) (rest : List PendingTurn), Takes .mark s r →
       RolesApart s → RingsBounded s → n.val = argU8 r 4 → argU8 r 5 = 1 → (s.slotAt n).role = d.target →
       s.slot.list d = p :: rest →
       let old := s.slot.withRole .shown
       let tag := argU32 r 8
       let fits : Prop := (d = .forward ∧ tag = (s.slotAt old).tag + 1) ∨ (d = .back ∧ tag + 1 = (s.slotAt old).tag)
       (s.slotAt old).ready = true → fits →
       let other := (s.slot.list d.opposite).length
       let hostTag := if p.origin = .request then p.hostTag else 0
       let passes : Prop := s.power.battery ≠ .critical ∧ drainOrDeep s.power.state = false
         ∧ s.wave.setState = .loaded ∧ s.rail.state ≠ .fault
       let reason : Reason := if s.power.battery = .critical ∨ drainOrDeep s.power.state = true then .state
         else if s.wave.setState ≠ .loaded then .notReady else .fault
       (¬ passes → Answers .mark s fun t =>
         t.fixed = ((s.dropRecord.setSlotAt n { s.slotAt n with ready := true, tag := tag }).withEntry .input
           (.turn d p.origin (.refused reason) old rest.length other hostTag true) 0).fixed
         ∧ (Steady s → t.slot.list d = rest ∧ t.slot.list d.opposite = s.slot.list d.opposite)
         ∧ Replied s t r (.done
             { nothingToDo := decide ((s.slotAt n).ready = true ∧ (s.slotAt n).tag = tag) } 0#32))
       ∧ (passes →
         let serial := if s.slot.serial = 65535 then 1 else s.slot.serial + 1
         Answers .mark s fun t =>
           (∀ k, (t.slotAt k).role = d.rotate (s.slotAt k).role)
           ∧ t.slot.serial = serial ∧ (t.slotAt n).dirty = [] ∧ (t.slotAt n).ready = true ∧ (t.slotAt n).tag = tag
           ∧ (t.slotAt old).ready = (s.slotAt old).ready ∧ (t.slotAt old).tag = (s.slotAt old).tag ∧ t.mem = s.mem
           ∧ Carried t (fun u => u.origin = .turn ∧ u.source = n ∧ u.serial = serial ∧ u.press = p.press
               ∧ u.rect = s.drive.settings.whole)
           ∧ (∀ u ∈ t.drive.queue, u.source ≠ old)
           ∧ (lastEntry t .input).body = .turn d p.origin .started n rest.length other hostTag true
           ∧ (lastEntry t .input).tag = serial
           ∧ (Steady s → t.slot.list d = rest ∧ t.slot.list d.opposite = s.slot.list d.opposite)
           ∧ Replied s t r (.done {} (BitVec.ofNat 32 serial))))

/-- R47 to R55: a TURN request whose target is READY and whose opposite list is empty is carried out: the roles rotate,
the new SHOWN slot's map is clear, the serial rises, the full-panel record is in the part, and the TURN entry and the
reply tell the serial. -/
def Obligations.TurnIsCarriedOut : Prop :=
  ∀ (s : State) (r : List Byte) (d : Dir), Takes .turn s r → RolesApart s → RingsBounded s →
    argU8 r 4 = d.code → s.power.battery ≠ .critical → s.power.state ≠ .departing .drain → s.power.state ≠ .deep →
    s.wave.setState = .loaded → s.rail.state ≠ .fault → s.slot.list d.opposite = [] →
    let old := s.slot.withRole .shown
    let new := s.slot.withRole (match d with | .forward => .ahead | .back => .behind)
    let serial := if s.slot.serial = 65535 then 1 else s.slot.serial + 1
    (s.slotAt new).ready = true →
    Answers .turn s fun t =>
      (∀ n, (t.slotAt n).role = match d, (s.slotAt n).role with
        | .forward, .ahead => .shown
        | .forward, .spare => .ahead
        | .forward, .shown => .behind
        | .forward, .behind => .spare
        | .back, .behind => .shown
        | .back, .shown => .ahead
        | .back, .spare => .behind
        | .back, .ahead => .spare)
      ∧ t.slot.serial = serial ∧ (t.slotAt new).dirty = [] ∧ (t.slotAt new).tag = (s.slotAt new).tag
      ∧ (t.slotAt new).ready = true ∧ (t.slotAt old).ready = (s.slotAt old).ready
      ∧ (t.slotAt old).tag = (s.slotAt old).tag ∧ t.mem = s.mem
      ∧ Carried t (fun u => u.origin = .turn ∧ u.source = new ∧ u.serial = serial ∧ u.press = s.time
          ∧ u.rect = s.drive.settings.whole)
      ∧ (∀ u ∈ t.drive.queue, u.source ≠ old)
      ∧ (lastEntry t .input).body = .turn d .request .started new (s.slot.list d).length 0 (reqTag r) false
      ∧ (lastEntry t .input).tag = serial
      ∧ Replied s t r (.accepted {} (BitVec.ofNat 32 serial))

/-- R47 to R49, R54, R55: a TURN request that is not carried out: a bad direction, the refusals of R48 in their order, a
pending opposite turn cancelled, a turn that waits, and a ninth one dropped. That a waiting turn keeps its host tag is
deduced (log 27). -/
def Obligations.TurnWaitsOrIsRefused : Prop :=
  ∀ (s : State) (r : List Byte), Takes .turn s r →
    (1 < argU8 r 4 → Answers .turn s fun t =>
      t.fixed = { s.fixed with fifo := s.request.fifo.drop 1 } ∧ Replied s t r (.refused .badArg))
    ∧ ∀ d : Dir, argU8 r 4 = d.code →
      let shown := s.slot.withRole .shown
      let own := (s.slot.list d).length
      let other := (s.slot.list d.opposite).length
      let passes : Prop := s.power.battery ≠ .critical ∧ drainOrDeep s.power.state = false
        ∧ s.wave.setState = .loaded ∧ s.rail.state ≠ .fault
      let told := fun out own other => s.dropRecord.withEntry .input (.turn d .request out shown own other (reqTag r) false) 0
      let refused := fun reason => Answers .turn s fun t =>
        t.fixed = (told (.refused reason) own other).fixed ∧ Replied s t r (.refused reason)
      (s.power.battery = .critical → refused .state)
      ∧ (s.power.battery ≠ .critical → drainOrDeep s.power.state = true → refused .state)
      ∧ (s.power.battery ≠ .critical → drainOrDeep s.power.state = false → s.wave.setState ≠ .loaded →
          refused .notReady)
      ∧ (s.power.battery ≠ .critical → drainOrDeep s.power.state = false → s.wave.setState = .loaded →
          s.rail.state = .fault → refused .fault)
      ∧ (passes → Steady s → 0 < other → Answers .turn s fun t =>
          t.fixed = (told .cancelledPending own (other - 1)).fixed ∧ t.slot.list d = s.slot.list d
          ∧ t.slot.list d.opposite = (s.slot.list d.opposite).dropLast ∧ Replied s t r (.done {} 0#32))
      ∧ (passes → Steady s → other = 0 → (s.slotAt (s.slot.withRole d.target)).ready = false →
          (own < 8 → Answers .turn s fun t =>
            t.fixed = (told .pending (own + 1) 0).fixed
            ∧ t.slot.list d = s.slot.list d ++ [⟨.request, s.time, reqTag r⟩] ∧ t.slot.list d.opposite = []
            ∧ Replied s t r (.done {} 0#32))
          ∧ (8 ≤ own → Answers .turn s fun t =>
            t.fixed = (told .dropped own 0).fixed ∧ t.slot.list d = s.slot.list d
            ∧ Replied s t r (.done { nothingToDo := true } 0#32)))

/-- R56: a JUMP is refused by its first failing test, or shows the SPARE slot with AHEAD and BEHIND emptied; R57:
CANCEL-TURNS empties both lists and tells whether they were empty. -/
def Obligations.JumpAndCancelTurns : Prop :=
  ∀ (s : State) (r : List Byte), RolesApart s →
    (Takes .jump s r →
      let refused := fun reason => Answers .jump s fun t =>
        t.fixed = { s.fixed with fifo := s.request.fifo.drop 1 } ∧ Replied s t r (.refused reason)
      (3 < argU8 r 4 → refused .badArg)
      ∧ ∀ n : Fin 4, n.val = argU8 r 4 →
        (s.power.battery = .critical ∨ drainOrDeep s.power.state = true → refused .state)
        ∧ (s.power.battery ≠ .critical → drainOrDeep s.power.state = false →
          (s.wave.setState ≠ .loaded → refused .notReady)
          ∧ (s.wave.setState = .loaded →
            (s.rail.state = .fault → refused .fault)
            ∧ (s.rail.state ≠ .fault →
              ((s.slotAt n).role ≠ .spare → refused .badArg)
              ∧ ((s.slotAt n).role = .spare → (s.slotAt n).ready = false → refused .emptySlot)
              ∧ ((s.slotAt n).role = .spare → (s.slotAt n).ready = true →
                let old := s.slot.withRole .shown
                let serial := if s.slot.serial = 65535 then 1 else s.slot.serial + 1
                Answers .jump s fun t =>
                  (∀ k, (t.slotAt k).role = if k = n then .shown else if k = old then .spare else (s.slotAt k).role)
                  ∧ (∀ k, (s.slotAt k).role = .ahead ∨ (s.slotAt k).role = .behind → (t.slotAt k).ready = false)
                  ∧ (t.slotAt n).dirty = [] ∧ (t.slotAt n).ready = true ∧ (t.slotAt n).tag = (s.slotAt n).tag
                  ∧ (t.slotAt old).ready = (s.slotAt old).ready ∧ (t.slotAt old).tag = (s.slotAt old).tag
                  ∧ t.slot.forward = [] ∧ t.slot.back = [] ∧ t.slot.serial = serial ∧ t.mem = s.mem
                  ∧ Carried t (fun u => u.origin = .jump ∧ u.source = n ∧ u.serial = serial ∧ u.press = s.time
                      ∧ u.rect = s.drive.settings.whole)
                  ∧ Replied s t r (.accepted {} (BitVec.ofNat 32 serial)))))))
    ∧ (Takes .cancelTurns s r → Answers .cancelTurns s fun t =>
      t.fixed = { s.fixed with fifo := s.request.fifo.drop 1 } ∧ t.slot.forward = [] ∧ t.slot.back = []
      ∧ Replied s t r (.done { nothingToDo := decide (s.slot.forward = [] ∧ s.slot.back = []) } 0#32))

/-! ## Waveforms and updates -/

/-- R61, R64: LOAD-WAVEFORMS and UNLOAD-WAVEFORMS are refused BUSY while a load runs or an update stands; otherwise the
one begins a load and the other drops the set, with its entry, whose counts, set id, cause and failing table are 0 by the
model's choice (log 18). -/
def Obligations.WaveformSetIsLoadedAndUnloaded : Prop :=
  ∀ (s : State) (r : List Byte),
    let busy : Prop := s.wave.setState = .loading ∨ s.drive.queue ≠ [] ∨ ∃ i ∈ laneIds, s.lane i ≠ none
    (Takes .loadWaveforms s r →
      (busy → Answers .loadWaveforms s fun t =>
        t.fixed = { s.fixed with fifo := s.request.fifo.drop 1 } ∧ Replied s t r (.refused .busy))
      ∧ (¬ busy → Answers .loadWaveforms s fun t =>
        t.fixed = { s.fixed with
          fifo := s.request.fifo.drop 1
          setState := .loading
          set := none
          load := some .header
          loadTag := reqTag r }
        ∧ t.wave.band = none ∧ Replied s t r (.accepted {} 0#32)))
    ∧ (Takes .unloadWaveforms s r →
      (busy → Answers .unloadWaveforms s fun t =>
        t.fixed = { s.fixed with fifo := s.request.fifo.drop 1 } ∧ Replied s t r (.refused .busy))
      ∧ (¬ busy → Answers .unloadWaveforms s fun t =>
        t.fixed = { s.fixed with
          fifo := s.request.fifo.drop 1
          setState := .unloaded
          set := none
          load := none
          lastResult := .unloaded
          failCause := 0
          failTable := 0 }
        ∧ t.wave.band = none
        ∧ (t.ring .display).placed = ((if s.wave.setState = .unloaded then s else
            s.withEntry .display (.waveform .unloaded 0 0 0 0 0 0) (reqTag r)).ring .display).placed
        ∧ Replied s t r (.done { nothingToDo := decide (s.wave.setState = .unloaded) } 0#32)))

/-- R74 to R76: the refusals of a PRESENT in their order; otherwise it finds nothing dirty, joins the youngest waiting
record, or is admitted as a record of its own. The update queue's own step of it: merged into the youngest waiting record,
refused QUEUE-FULL, or appended. -/
def Obligations.PresentIsAdmitted : Prop :=
  (∀ (s : State) (r : List Byte), Takes .present s r → s.drive.queue = [] →
     let kind := argU8 r 5
     let mode := argU8 r 4
     let p := s.drive.settings
     let shown := s.slot.withRole .shown
     let given : Rect := ⟨argU8 r 6, argU8 r 7, argU8 r 8, argU8 r 9⟩
     let badRect : Prop := kind = 2 ∧ (given.tx1 < given.tx0 ∨ given.ty1 < given.ty0
       ∨ (p.width + 31) / 32 ≤ given.tx1 ∨ (p.height + 31) / 32 ≤ given.ty1)
     let refused := fun reason => Answers .present s fun t =>
       t.fixed = { s.fixed with fifo := s.request.fifo.drop 1 } ∧ Replied s t r (.refused reason)
     let test1 : Prop := reqTag r = 0 ∨ 2 < kind
     let test2 : Prop := s.wave.setState ≠ .loaded
     let test3 : Prop := s.rail.state = .fault
     let test4 : Prop := s.power.state = .departing .drain ∨ s.power.state = .deep
     let test5 : Prop := s.wave.modeCount ≤ mode ∨ badRect
     let test6 : Prop := (s.slotAt shown).ready = false
     (test1 → refused .badArg) ∧ (¬ test1 → test2 → refused .notReady) ∧ (¬ test1 → ¬ test2 → test3 → refused .fault)
     ∧ (¬ test1 → ¬ test2 → ¬ test3 → test4 → refused .state)
     ∧ (¬ test1 → ¬ test2 → ¬ test3 → ¬ test4 → test5 → refused .badArg)
     ∧ (¬ test1 → ¬ test2 → ¬ test3 → ¬ test4 → ¬ test5 → test6 → refused .emptySlot)
     ∧ (¬ test1 → ¬ test2 → ¬ test3 → ¬ test4 → ¬ test5 → ¬ test6 →
       (kind = 0 → (s.slotAt shown).dirty = [] → Answers .present s fun t =>
         t.fixed = { s.fixed with fifo := s.request.fifo.drop 1 } ∧ Replied s t r (.done { nothingToDo := true } 0#32))
       ∧ (kind ≠ 0 ∨ (s.slotAt shown).dirty ≠ [] → Answers .present s fun t =>
         t.fixed = { s.fixed with fifo := s.request.fifo.drop 1 }
         ∧ Carried t (fun u => u.origin = .request ∧ u.tags = [reqTag r] ∧ u.source = shown ∧ u.queued = s.time
           ∧ (u.flags.unknownPromoted = false → u.requested = mode
             ∧ (kind = 2 → u.rect = given)
             ∧ (kind = 1 → u.rect = ⟨0, 0, (p.width + 31) / 32 - 1, (p.height + 31) / 32 - 1⟩)
             ∧ (kind = 0 → ∀ q ∈ (s.slotAt shown).dirty, u.rect.tx0 ≤ q % 64 ∧ q % 64 ≤ u.rect.tx1
               ∧ u.rect.ty0 ≤ q / 64 ∧ q / 64 ≤ u.rect.ty1)))
         ∧ Replied s t r (.accepted {} 0#32))))
  ∧ (∀ (tag mode : Nat) (source : Fin 4) (rect : Rect) (s : State),
       let fresh : UpdateRecord := ⟨[tag], 0, .request, source, rect, mode, none, none, {}, s.time, 0#32, none, none⟩
       let joins := fun y : UpdateRecord => y.origin = .request ∧ y.requested = mode ∧ y.source = source
         ∧ y.tags.length < 4 ∧ (y.rect.overlaps rect = true ∨ y.rect.edgeTouches rect = true)
       let x := admitPresent tag mode source rect s
       (∀ older y, s.drive.queue = older ++ [y] → joins y →
         x.1.drive.queue = older ++ [{ y with
             tags := y.tags ++ [tag]
             rect := ⟨min y.rect.tx0 rect.tx0, min y.rect.ty0 rect.ty0, max y.rect.tx1 rect.tx1, max y.rect.ty1 rect.ty1⟩ }]
         ∧ x.1.slot = s.slot ∧ x.2 = .accepted { merged := true } 0#32)
       ∧ ((∀ older y, s.drive.queue = older ++ [y] → ¬ joins y) →
         (32 ≤ s.drive.queue.length → x = (s, .refused .queueFull))
         ∧ (s.drive.queue.length < 32 → x.1.drive.queue = s.drive.queue ++ [fresh]
           ∧ (x.1.slotAt source).sourceCount = (s.slotAt source).sourceCount + 1
           ∧ (∀ n, n ≠ source → x.1.slotAt n = s.slotAt n) ∧ x.2 = .accepted {} 0#32)))

/-- R78: CANCEL removes every appearance of its tag from the waiting records and tells how many; it is refused when the
tag is 0, is only in lanes, or is nowhere. -/
def Obligations.CancelRemovesTheTag : Prop :=
  ∀ (s : State) (r : List Byte), Takes .cancel s r →
    let tag := argU16 r 4
    let found := (s.drive.queue.map fun u => u.tags.count tag).sum
    let driven : Prop := ∃ i ∈ laneIds, ∃ l, s.lane i = some l ∧ tag ∈ l.upd.tags
    let refused := fun reason => Answers .cancel s fun t =>
      t.fixed = { s.fixed with fifo := s.request.fifo.drop 1 } ∧ Replied s t r (.refused reason)
    (tag = 0 → refused .badArg)
    ∧ (tag ≠ 0 → found = 0 → driven → refused .tooLate)
    ∧ (tag ≠ 0 → found = 0 → ¬ driven → refused .notFound)
    ∧ (tag ≠ 0 → 0 < found → Answers .cancel s fun t =>
        t.fixed = { s.fixed with fifo := s.request.fifo.drop 1 } ∧ (∀ u ∈ t.drive.queue, tag ∉ u.tags)
        ∧ Replied s t r (.done {} (BitVec.ofNat 32 found)))

/-- R94, R95: SET-PANEL brings its six settings into range and takes them together, with the clearing that a change of
geometry makes; it is refused BUSY when it would change the geometry under an update. The rounding of a height holds for
the default 1404 too (log 33). -/
def Obligations.PanelSettingsAreTaken : Prop :=
  ∀ (s : State) (r : List Byte), Takes .setPanel s r →
    let asked : PanelSettings := ⟨argU16 r 4, argU16 r 6, argU8 r 8, argU8 r 9, argU16 r 10, argU16 r 12⟩
    let p : PanelSettings := ⟨max 256 (min 2048 (asked.width / 8 * 8)), max 256 (min 1536 (asked.height / 8 * 8)),
      max 1 asked.ghostLimit, asked.pageMode, max 1 (min 600 asked.freshness), min 60000 asked.hold⟩
    let moved : Prop := p.width ≠ s.drive.settings.width ∨ p.height ≠ s.drive.settings.height
    (moved → ¬ NoUpdates s → Answers .setPanel s fun t =>
      t.fixed = { s.fixed with fifo := s.request.fifo.drop 1 } ∧ t.drive.ghost = s.drive.ghost
      ∧ Replied s t r (.refused .busy))
    ∧ (moved → NoUpdates s → Answers .setPanel s fun t =>
      t.drive.settings = p ∧ t.drive.mirrorKnown = false ∧ t.drive.ghost = [] ∧ (∀ n, (t.slotAt n).dirty = [])
      ∧ { t.fixed with slots := s.fixed.slots }
        = { s.fixed with fifo := s.request.fifo.drop 1, settings := p }
      ∧ Replied s t r (.done { clamped := decide (p ≠ asked) } 0#32))
    ∧ (¬ moved → Answers .setPanel s fun t =>
      t.fixed = { s.fixed with fifo := s.request.fifo.drop 1, settings := p }
      ∧ t.drive.ghost = s.drive.ghost.map (fun g => (g.1, min g.2 p.ghostLimit))
      ∧ Replied s t r (.done { clamped := decide (p ≠ asked) } 0#32))

/-! ## Frames and rails -/

/-- R84, R85, R86, R99: a frame boundary in ON: lanes whose latch has ended begin to drive; each driving lane sends its
frame, is late, or has ended its last frame; the panel bus takes the drives of the frames sent. That a frame is read in one
burst for each pixel row and one for its table, which decides which frame is late, is the model's cut (log 11); that the
bus holds the LIGHTEN and DARKEN pixels and lists no NONE is its form (log 28). -/
def Obligations.FrameBoundaryDrivesTheLanes : Prop :=
  ∀ (s : State), Calm s →
    let begun := fun l : Lane => if l.state = .waitRails then { l with state := .driving, frame := 0 } else l
    let drives := fun l : Lane => decide ((begun l).state = .driving)
    let rows := fun l : Lane => min (32 * (l.upd.rect.ty1 + 1)) s.drive.settings.height - 32 * l.upd.rect.ty0
    let ready := fun (i : Fin 16) (l : Lane) =>
      decide (rows l + 1 ≤ l.fetched) && decide (s.port.burst.map (·.kind) ≠ some (.frameRead i))
    let due := fun l : Lane => drives l && !l.completing && decide ((begun l).frame < l.frames)
    let late := (s.drive.active.filter fun a => due a.2 && !ready a.1 a.2).length
    (s.rail.state ≠ .on → Answers .frameBoundary s fun t => t.calm = s.calm)
    ∧ (s.rail.state = .on → Answers .frameBoundary s fun t =>
      t.steady = { s.steady with fixed := { s.fixed with late := t.drive.late, panelBus := t.drive.panelBus } }
      ∧ (∀ i, s.lane i = none → t.lane i = none)
      ∧ (∀ i l, s.lane i = some l →
          (drives l = false ∨ l.completing = true → t.lane i = some (begun l))
          ∧ (drives l = true → l.completing = false → l.frames ≤ (begun l).frame →
              t.lane i = some { begun l with completing := true, fetched := 0 })
          ∧ (due l = true → ready i l = true →
              t.lane i = some { begun l with frame := (begun l).frame + 1, fetched := 0 })
          ∧ (due l = true → ready i l = false → t.lane i = some (begun l)))
      ∧ t.drive.late = (if late = 0 then s.drive.late else min (s.drive.late + late) 65535)
      ∧ (t.drive.panelBus = none ↔ ∀ a ∈ s.drive.active, drives a.2 = false)
      ∧ ∀ pixels, t.drive.panelBus = some pixels → ∀ x y d, (⟨x, y, d⟩ : PixelDrive) ∈ pixels ↔
          ∃ i l, s.lane i = some l ∧ due l = true ∧ ready i l = true
            ∧ 32 * l.upd.rect.tx0 ≤ x ∧ x < 32 * (l.upd.rect.tx1 + 1) ∧ x < s.drive.settings.width
            ∧ 32 * l.upd.rect.ty0 ≤ y ∧ y < 32 * (l.upd.rect.ty1 + 1) ∧ y < s.drive.settings.height
            ∧ (let held := (readByte s.mem (0x1A00000 + 2048 * y + x)).toNat
               let table := (s.waveSet.tableAt (l.upd.effective.getD 0) (l.upd.band.getD 0)).1
               let k := 16 * (held / 16) + held % 16
               let entry := readValue s.mem (0x1D00000 + (table + 8 + 64 * (begun l).frame + k / 4)) 1 / 4 ^ (k % 4) % 4
               entry = 1 ∧ d = .lighten ∨ entry = 2 ∧ d = .darken))

/-- R97 to R101, R103: what rail good and the sequencer's timer do, the entry into FAULT apart. A rise or fall of
rail good that finds the level already there is taken as an edge: the model's choice (log 44). -/
def Obligations.RailsRiseAndFall : Prop :=
  ∀ s : State, Calm s →
    let off := fun r : Rail =>
      if activeCount s = 0 then { r with state := .off, timer := none }
      else if r.good then { r with state := .on, timer := none }
      else { r with state := .rising, timer := some (s.time + 40#32) }
    let leads := fun (i : Instr) (r : Rail) => Answers i s fun t =>
      t.rail = r ∧ t.drive.lanes = s.drive.lanes ∧ (t.ring .display).placed = (s.ring .display).placed
      ∧ t.steady = { s.steady with fixed := { s.fixed with good := r.good } }
    let stays := fun i : Instr => Answers i s fun t => t.calm = s.calm
    let x := s.rail
    let counted := min (x.count + 1) 255
    leads .railGoodRise (match x.state with
      | .rising => { x with state := .on, timer := none, good := true }
      | .fault => { x with timer := some (s.time + 100#32), good := true }
      | .off | .on | .hold | .falling => { x with good := true })
    ∧ (x.state = .off ∨ x.state = .rising → leads .railGoodFall { x with good := false })
    ∧ (x.state = .falling → leads .railGoodFall (off { x with good := false }))
    ∧ (x.state = .fault → leads .railGoodFall { x with good := false, timer := none, count := counted })
    ∧ (x.state = .hold → x.timer ≠ none → leads .railHoldTimerExpiry
        (if x.good then { x with state := .falling, timer := some (s.time + 100#32) } else off x))
    ∧ (x.state = .falling → x.timer ≠ none → x.good = false → leads .fallTimerExpiry (off x))
    ∧ (x.state = .falling → x.timer ≠ none → x.good = true → Answers .fallTimerExpiry s fun t =>
        t.rail = off { x with cause := .fallSlow, count := counted } ∧ t.drive.lanes = s.drive.lanes
        ∧ t.steady = s.steady
        ∧ (t.ring .display).placed = ((s.withEntry .display
            (.railFault .fallSlow .falling counted 0 false) 0).ring .display).placed)
    ∧ (x.state = .fault → x.timer ≠ none → leads .faultCheckExpiry
        { x with timer := none, count := if x.good then counted else x.count })
    ∧ (x.state ≠ .hold ∨ x.timer = none → stays .railHoldTimerExpiry)
    ∧ (x.state ≠ .falling ∨ x.timer = none → stays .fallTimerExpiry)
    ∧ (x.state ≠ .fault ∨ x.timer = none → stays .faultCheckExpiry)
    ∧ (x.state ≠ .rising ∨ x.timer = none → stays .riseTimerExpiry)

/-- R90, R98, R102, R104: the entry into FAULT ends every lane ABORTED, sets the dirty flags of its latched tiles again
and is reported (the aborted records' entries first, lanes lowest first: the model's order, log 9; the mirror as made UNKNOWN
only if it was KNOWN: its reading, log 34; a fall of a rail good already low is taken as a fall: its choice, log 44);
CLEAR-RAIL-FAULT. -/
def Obligations.RailFaultAbortsTheLanes : Prop :=
  ∀ s : State, Calm s → s.power.release ≠ some .deep →
    let gone := s.drive.active
    let driving := gone.any fun a => decide (a.2.state = .driving)
    let counted := min (s.rail.count + 1) 255
    let ends := gone.foldl (fun u a => a.2.upd.endTags.foldl (fun u tag =>
      u.withEntry .display (updateEndBody (a.2.upd.ended s.time) .aborted) tag) u) s
    let faults := fun (i : Instr) (cause : RailCause) => Answers i s fun t =>
      t.rail = ⟨.fault, cause, counted, none, false⟩ ∧ (∀ k, t.lane k = none)
      ∧ t.drive.mirrorKnown = (s.drive.mirrorKnown && !driving)
      ∧ (t.ring .display).placed = ((ends.withEntry .display (.railFault cause s.rail.state counted gone.length
          (s.drive.mirrorKnown && driving)) 0).ring .display).placed
      ∧ (∀ n p, p ∈ (t.slotAt n).dirty ↔
          p ∈ (s.slotAt n).dirty ∨ ∃ a ∈ gone, a.2.upd.source = n ∧ p ∈ a.2.latched)
      ∧ (∀ n, (t.slotAt n).sourceCount
          = (s.slotAt n).sourceCount - (gone.filter fun a => decide (a.2.upd.source = n)).length)
      ∧ { t.fixed with slots := s.fixed.slots } = { s.fixed with good := false }
    (s.rail.state = .on ∨ s.rail.state = .hold → faults .railGoodFall .dropout)
    ∧ (s.rail.state = .rising → s.rail.timer ≠ none → s.rail.good = false → faults .riseTimerExpiry .riseTimeout)
    ∧ ∀ r, Takes .clearRailFault s r →
      (s.rail.state ≠ .fault → Answers .clearRailFault s fun t =>
        t.fixed = { s.fixed with fifo := s.request.fifo.drop 1 } ∧ t.rail = s.rail ∧ Replied s t r (.refused .state))
      ∧ (s.rail.state = .fault → activeCount s = 0 → Answers .clearRailFault s fun t =>
        t.fixed = { s.fixed with fifo := s.request.fifo.drop 1 }
        ∧ t.rail = (if s.rail.good then { s.rail with state := .falling, timer := some (s.time + 100#32) }
            else { s.rail with state := .off, timer := none })
        ∧ Replied s t r (.done {} (BitVec.ofNat 32 s.rail.count)))

/-! ## Keys and the scroll ring -/

/-- R106, R107: a key's filter, and the edges and expiries that make no gesture. That a press returns the repeat index to 0
is the model's choice (log 35). -/
def Obligations.KeysAreFilteredAndTimed : Prop :=
  ∀ (k : Key) (s : State), Steady s →
    let x := s.input.keys.get k
    let keyed := fun (i : Instr) (y : KeyUnit) => Answers i s fun t =>
      t.steady = { s.steady with keys := s.input.keys.set k y }
    let settled : KeyUnit := { x with debounced := x.raw, timer := none }
    (∀ down, s.power.state ≠ .deep ∨ k = .power → keyed (.keyRawChange k down)
      (if down = x.debounced then { x with raw := down, timer := none }
       else { x with raw := down, timer := some (x.timer.getD (s.time + BitVec.ofNat 32 s.input.debounce)) }))
    ∧ (∀ down, s.power.state = .deep → k ≠ .power → keyed (.keyRawChange k down) { x with raw := down })
    ∧ (x.timer = none → keyed (.keyDebounceExpiry k) x)
    ∧ (x.timer ≠ none → s.power.state ≠ .deep → s.power.state ≠ .nap →
        (x.raw = true → x.gesture = .released → keyed (.keyDebounceExpiry k) { settled with
          gesture := .pressed
          pressTime := s.time
          woke := false
          repeatIndex := 0
          holdTimer := some (s.time + BitVec.ofNat 32 s.input.hold) })
        ∧ (x.raw = true → x.gesture ≠ .released → keyed (.keyDebounceExpiry k) settled)
        ∧ (x.raw = false → x.gesture = .held →
            keyed (.keyDebounceExpiry k) { settled with gesture := .released, repeatTimer := none })
        ∧ (x.raw = false → x.gesture = .wakeHeld → keyed (.keyDebounceExpiry k) { settled with gesture := .released })
        ∧ (x.raw = false → x.gesture = .released → keyed (.keyDebounceExpiry k) settled))
    ∧ (¬ (x.gesture = .pressed ∧ x.holdTimer ≠ none) → keyed (.holdTimerExpiry k) x)
    ∧ (¬ (x.gesture = .held ∧ x.repeatTimer ≠ none) → keyed (.repeatTimerExpiry k) x)

/-- R107, R110, R111, R137, R181: TAP, HOLD and REPEAT: the key's machine, the KEY entry of a mapped gesture, and what
its action does; a turn action is handed to the slot unit with the press at the present time. -/
def Obligations.GesturesHandTheirActions : Prop :=
  ∀ (k : Key) (s : State), Steady s →
    let x := s.input.keys.get k
    let again := if s.input.repeatPeriod = 0 then none else some (s.time + BitVec.ofNat 32 s.input.repeatPeriod)
    let next := min (x.repeatIndex + 1) 65535
    let dispatched := fun (i : Instr) (y : KeyUnit) (g : Gesture) (index : Nat) =>
      let a := s.input.keyMap.toList.getD (3 * keyCode k + g.code) .none
      let body := EntryBody.key k g a (min (s.time - x.pressTime).toNat 65535) x.woke
      let u := s.setInput { s.input with keys := s.input.keys.set k y }
      let v := u.withEntry .input body index
      let l := s.light
      (a = .none → Answers i s fun t => t.steady = u.steady)
      ∧ (a = .notify → Answers i s fun t => t.steady = v.steady)
      ∧ (a = .sleepRequest → Answers i s fun t =>
          t.steady = (v.withEntry .power (.sleepRequest g s.power.state) 0).steady)
      ∧ (a = .lightToggle → Answers i s fun t => t.steady = { v.steady with fixed := { v.fixed with light :=
          if 0 < l.level then (0, l.level, l.warmth, l.follow, l.tuning)
          else (if l.remembered = 0 then 32 else l.remembered, l.remembered, l.warmth, l.follow, l.tuning) } })
      ∧ (a = .lightUp ∨ a = .lightDown → Answers i s fun t => t.steady = { v.steady with fixed := { v.fixed with light :=
          (if a = .lightUp then min (l.level + 1) 63 else l.level - 1, l.remembered, l.warmth, l.follow, l.tuning) } })
      ∧ (∀ d, a = (match d with | .forward => .turnFwd | .back => .turnBack) → Answers i s fun t =>
          t.steady = (takeTurn d .key s.time 0 (produce .input body index (reportActivity u))).2.steady)
    (x.timer ≠ none → x.raw = false → x.gesture = .pressed → s.power.state ≠ .deep → s.power.state ≠ .nap →
      dispatched (.keyDebounceExpiry k)
        { x with debounced := false, timer := none, gesture := .released, holdTimer := none } .tap 0)
    ∧ (x.gesture = .pressed → x.holdTimer ≠ none → dispatched (.holdTimerExpiry k)
        { x with gesture := .held, holdTimer := none, repeatIndex := 0, repeatTimer := again } .hold 0)
    ∧ (x.gesture = .held → x.repeatTimer ≠ none → dispatched (.repeatTimerExpiry k)
        { x with repeatIndex := next, repeatTimer := again } .repeat next)

/-- R115 to R121: the phase filters and the decoder: nothing while a filter has a change pending or the pair is the settled
one, a skip, or a step with its count by the counting mode, and what a count does to the position and the accumulator;
a wheel turn is reported. No watch on the wheel is enabled. WHEEL-SNAPSHOT. -/
def Obligations.RingStepsAreCounted : Prop :=
  ∀ (s : State) (p : Phase),
    let u := s.input
    let x := match p with | .a => u.phaseA | .b => u.phaseB
    let pair := fun y : PhaseUnit => match p with | .a => (y, u.phaseB) | .b => (u.phaseA, y)
    let meets := fun (i : Instr) (y : PhaseUnit) =>
      let a := (pair y).1.filtered
      let b := (pair y).2.filtered
      let leaves := fun settled wheel => Answers i s fun t => t.steady =
        { s.steady with phases := pair y, fixed := { s.fixed with settled := settled, wheel := wheel } }
      let idle : Prop := (pair y).1.timer ≠ none ∨ (pair y).2.timer ≠ none ∨ (a = u.settledA ∧ b = u.settledB)
      let both : Prop := a ≠ u.settledA ∧ b ≠ u.settledB
      let d : Int := if a = !u.settledB ∧ b = u.settledA then 1 else -1
      let q := u.stepSum + d
      let rest : Prop := a = false ∧ b = false
      let c : Int := match u.mode with
        | .edge => d
        | .half => if a ≠ u.settledA then d else 0
        | .detent => if rest then (if q = 4 then 1 else if q = -4 then -1 else 0) else 0
      let settled := (a, b, match u.mode with
        | .edge | .half => u.stepSum
        | .detent => if rest then 0 else q)
      let pos := u.position + BitVec.ofInt 32 c
      let acc := if u.accumulator ≠ 0 ∧ (0 < u.accumulator ↔ c < 0) then c else u.accumulator + c
      (idle → leaves (u.settledA, u.settledB, u.stepSum) s.fixed.wheel)
      ∧ (¬ idle → both → leaves (a, b, 0) (u.position, min (u.skips + 1) 65535, u.accumulator, u.wheelRecord))
      ∧ (¬ idle → ¬ both → c = 0 → leaves settled s.fixed.wheel)
      ∧ (¬ idle → ¬ both → c ≠ 0 → u.wheelStep = 0 → leaves settled (pos, u.skips, 0, u.wheelRecord))
      ∧ (¬ idle → ¬ both → c ≠ 0 → acc.natAbs < u.wheelStep → leaves settled (pos, u.skips, acc, u.wheelRecord))
      ∧ (¬ idle → ¬ both → c ≠ 0 → u.wheelStep ≠ 0 → u.wheelStep ≤ acc.natAbs → Answers i s fun t =>
          t.fixed.settled = settled ∧ t.fixed.wheel = (pos, u.skips, 0, ⟨pos, u.skips, 0, u.mode, s.time⟩)
          ∧ ∃ out shown own other, (lastEntry t .input).body
              = .turn (if 0 < acc then .forward else .back) .wheel out shown own other 0 false)
    (Awake s → RingsBounded s → (∀ i : Fin 8, s.watches[i].mode = .off ∨ s.watches[i].event ≠ .wheel) →
      (∀ high, meets (.ringPhaseChange p high)
        (if high = x.filtered then { x with raw := high, timer := none }
         else if u.phaseFilter = 0 ∧ x.timer = none then { x with raw := high, filtered := high }
         else { x with raw := high, timer := some (x.timer.getD (s.time + BitVec.ofNat 32 u.phaseFilter)) }))
      ∧ (x.timer ≠ none → meets (.phaseFilterExpiry p) { x with filtered := x.raw, timer := none }))
    ∧ (Steady s → x.timer = none → Answers (.phaseFilterExpiry p) s fun t => t.steady = s.steady)
    ∧ (Steady s → s.power.state = .deep → ∀ high, Answers (.ringPhaseChange p high) s fun t =>
        t.steady = { s.steady with phases := pair { x with raw := high } })
    ∧ ∀ r, Takes .wheelSnapshot s r → Answers .wheelSnapshot s fun t =>
        t.fixed = { s.fixed with
          fifo := s.request.fifo.drop 1
          wheel := (u.position, u.skips, u.accumulator, ⟨u.position, u.skips, u.accumulator, u.mode, s.time⟩) }
        ∧ Replied s t r (.done {} u.position)

/-! ## Light, sampler and settings -/

/-- R131 to R133, R138: a tick of the ramp, and the starts of the channels' frames. -/
def Obligations.LightTicksAndFramesStart : Prop :=
  ∀ s : State,
    let l := s.light
    let move := fun target duty : Nat =>
      if duty < target then min (duty + l.tuning.step) target else max (duty - l.tuning.step) target
    let cool := move l.coolTarget l.coolDuty
    let warm := move l.warmTarget l.warmDuty
    let settled := decide (cool = l.coolTarget ∧ warm = l.warmTarget)
    (Calm s → l.running = false ∨ l.ramping = false → Answers .lightTick s fun t => t.calm = s.calm)
    ∧ (Calm s → l.running = true → l.ramping = true → Answers .lightTick s fun t =>
        { t.calm with light := s.light, port := s.port } = s.calm
        ∧ t.light = { l with
            coolDuty := cool
            warmDuty := warm
            ramping := !settled
            recCool := if settled then cool else l.recCool
            recWarm := if settled then warm else l.recWarm
            recTime := if settled then s.time else l.recTime })
    ∧ (Steady s → l.running = false → ∀ c, Answers (.pwmFrameStart c) s fun t => t.steady = s.steady)
    ∧ (Steady s → l.running = true →
        Answers (.pwmFrameStart .cool) s (fun t => t.steady = { s.steady with
          frames := (l.coolDuty, l.warmFrame)
          fixed := { s.fixed with counter := (0, l.tuning.prescaler) } })
        ∧ Answers (.pwmFrameStart .warm) s fun t => t.steady = { s.steady with
          frames := (l.coolFrame, l.warmDuty)
          fixed := { s.fixed with counter := (500, l.prescaler) } })

/-- R125 to R130, R134: SET-LIGHT takes its three values in range and composes the targets: the base of the level's table
entry, the ambient factor, the caps, and the split by warmth; forced off, the duties are 0 at once. -/
def Obligations.SetLightComposesTheTargets : Prop :=
  ∀ (s : State) (r : List Byte), Takes .setLight s r → Calm s →
    let l := s.light
    let g := l.tuning
    let level := min 63 (argU8 r 4)
    let warmth := min 16 (argU8 r 5)
    let base := l.table.getD level 0
    let factor := match s.sampler.chans.amb.value with
      | none => 1000
      | some (v, _) =>
        if argU8 r 6 = 0 ∨ g.a1 ≤ g.a0 then 1000
        else if v.toNat ≤ g.a0 then g.floor
        else if g.a1 ≤ v.toNat then 1000
        else g.floor + (1000 - g.floor) * (v.toNat - g.a0) / (g.a1 - g.a0)
    let forced : Prop := s.power.battery = .critical ∨ s.power.state = .nap ∨ s.power.state = .deep
    let cap := if forced then 0
      else min (min (if s.power.battery = .low then g.lowCap else 1000) 1000)
        (if s.rail.state = .rising then g.inrushCap else 1000)
    let total := min (base * factor / 1000) cap
    let cool := total * (16 - warmth) / 16
    (1 < argU8 r 6 → Answers .setLight s fun t =>
      t.fixed = { s.fixed with fifo := s.request.fifo.drop 1 } ∧ Replied s t r (.refused .badArg))
    ∧ (argU8 r 6 ≤ 1 → Answers .setLight s fun t =>
      t.steady = { s.steady with fixed := { s.fixed with
        fifo := s.request.fifo.drop 1
        light := (level, if level = 0 ∧ 0 < l.level then l.level else l.remembered, warmth, decide (argU8 r 6 = 1), g) } }
      ∧ t.light.total = total ∧ t.light.coolTarget = cool ∧ t.light.warmTarget = total - cool
      ∧ (forced → t.light.coolDuty = 0 ∧ t.light.warmDuty = 0)
      ∧ (¬ forced → t.light.coolDuty = l.coolDuty ∧ t.light.warmDuty = l.warmDuty)
      ∧ Replied s t r (.done { clamped := decide (63 < argU8 r 4 ∨ 16 < argU8 r 5) }
          (BitVec.ofNat 32 (cool + 65536 * (total - cool)))))

/-- R24, R123, R135, R146, R174: SET-INPUT, SET-LIGHT-TUNING, SET-SAMPLER and SET-TIMERS bring their values into range and
take them. -/
def Obligations.SettingsAreTaken : Prop :=
  ∀ (s : State) (r : List Byte),
    let u8 := argU8 r
    let u16 := argU16 r
    let u32 := argU32 r
    let bring := fun lo hi v : Nat => max lo (min hi v)
    let orZero := fun lo hi v : Nat => if v = 0 then 0 else max lo (min hi v)
    let taken := fun (i : Instr) (f : Fixed) (clamped : Bool) => Answers i s fun t =>
      t.fixed = { f with fifo := s.request.fifo.drop 1 } ∧ Replied s t r (.done { clamped := clamped } 0#32)
    (Takes .setInput s r →
      (2 < u8 10 → Answers .setInput s fun t =>
        t.fixed = { s.fixed with fifo := s.request.fifo.drop 1 } ∧ Replied s t r (.refused .badArg))
      ∧ (∀ mode : CountMode, mode.code = u8 10 →
        taken .setInput { s.fixed with
          inputs := (bring 1 64 (u8 4), bring 200 5000 (u16 6), orZero 100 2000 (u16 8), min 15 (u8 5), mode, min 64 (u8 11))
          settled := (s.input.settledA, s.input.settledB, 0)
          wheel := (s.input.position, s.input.skips, 0, s.input.wheelRecord) }
          (bring 1 64 (u8 4) ≠ u8 4 ∨ 15 < u8 5 ∨ bring 200 5000 (u16 6) ≠ u16 6 ∨ orZero 100 2000 (u16 8) ≠ u16 8
            ∨ 64 < u8 11)))
    ∧ (Takes .setLightTuning s r →
        taken .setLightTuning { s.fixed with light := (s.light.level, s.light.remembered, s.light.warmth, s.light.follow,
          ⟨min 1023 (u16 4), min 1023 (u16 6), min 1000 (u16 8), min 1000 (u16 10), min 1000 (u16 12),
            bring 1 1000 (u16 14), bring 1 120 (u8 16)⟩) }
          (1023 < u16 4 ∨ 1023 < u16 6 ∨ 1000 < u16 8 ∨ 1000 < u16 10 ∨ 1000 < u16 12 ∨ bring 1 1000 (u16 14) ≠ u16 14
            ∨ bring 1 120 (u8 16) ≠ u8 16) )
    ∧ (Takes .setSampler s r →
        let c := s.sampler.chans
        let renewed := fun (x : ChannelUnit) (p : Nat) => (p, x.count, x.conv, x.value)
        taken .setSampler { s.fixed with
          scale := bring 1000 8000 (u16 10)
          samples := [renewed c.batt (orZero 100 60000 (u16 4)), renewed c.therm (orZero 100 60000 (u16 6)),
            renewed c.amb (orZero 100 60000 (u16 8))] }
          (orZero 100 60000 (u16 4) ≠ u16 4 ∨ orZero 100 60000 (u16 6) ≠ u16 6 ∨ orZero 100 60000 (u16 8) ≠ u16 8
            ∨ bring 1000 8000 (u16 10) ≠ u16 10) )
    ∧ (Takes .setTimers s r →
        let nap := orZero 500 600000 (u32 4)
        let deep := orZero 60 86400 (u32 8)
        taken .setTimers { s.fixed with timers := (nap, deep, min 120 (u8 12)) }
          (nap ≠ u32 4 ∨ deep ≠ u32 8 ∨ 120 < u8 12)
        ∧ (s.power.state = .active → Calm s → Answers .setTimers s fun t =>
          t.power.napTimer = (if nap = 0 then none else some (s.time + BitVec.ofNat 32 nap))
          ∧ t.power.deepTimer = (if deep = 0 then none else some (s.time + BitVec.ofNat 32 (deep * 1000)))))

/-- R140 to R144, R147: a conversion completes; a channel's due time arrives; SAMPLE-NOW queues its demand. -/
def Obligations.ConversionsAreTaken : Prop :=
  ∀ (c : Channel) (s : State),
    let x := s.sampler.chans.get c
    let busy : Prop := ∃ k kind start micros, s.sampler.converter = .converting k kind start micros
    (∀ kind start micros, s.sampler.converter = .converting c kind start micros → s.power.restarting = false →
      ∀ code : BitVec 10, let done := s.sampler.completed c code.toNat s.time
        Answers (.conversionComplete code) s fun t =>
          t.fixed.samples = [done.chans.batt.sample, done.chans.therm.sample, done.chans.amb.sample]
          ∧ t.sampler.thermFault = done.thermFault
          ∧ (t.sampler.chans.get c).count = x.count + 1#16
          ∧ (t.sampler.chans.get c).conv = some (code.toNat, s.time)
          ∧ (c = .batt → t.sampler.chans.batt.value = some (((code.toNat * s.sampler.scale / 1024 : Nat) : Int), s.time))
          ∧ (c = .amb → t.sampler.chans.amb.value = some ((code.toNat : Int), s.time))
          ∧ (Steady s → (∀ i : Fin 8, s.watches[i].mode = .off ∨ s.watches[i].event ≠ channelEvent c) →
              t.steady = { s.steady with fixed := { s.fixed with
                samples := [done.chans.batt.sample, done.chans.therm.sample, done.chans.amb.sample]
                thermFault := done.thermFault } }))
    ∧ (Steady s → ¬ busy → ∀ code, Answers (.conversionComplete code) s fun t => t.steady = s.steady)
    ∧ (Steady s → s.sampler.converter = .stopped ∨ x.nextDue = none →
        Answers (.channelDue c) s fun t => t.steady = s.steady)
    ∧ (Calm s → x.nextDue ≠ none → busy → Answers (.channelDue c) s fun t =>
        t.calm = s.calm ∧ t.sampler = { s.sampler with chans := s.sampler.chans.set c { x with due := true } })
    ∧ (Calm s → x.nextDue ≠ none → s.sampler.converter = .idle → s.sampler.demands = [] →
        (∀ k, k ≠ c → (s.sampler.chans.get k).due = false) → s.power.state ≠ .nap → Answers (.channelDue c) s fun t =>
          t.calm = s.calm ∧ t.sampler = { s.sampler with
            converter := .converting c .periodic s.time 50
            chans := s.sampler.chans.set c
              { x with due := false, nextDue := some (s.time + BitVec.ofNat 32 x.period) } })
    ∧ ∀ r, Takes .sampleNow s r → Calm s →
      (2 < argU8 r 4 → Answers .sampleNow s fun t =>
        t.fixed = { s.fixed with fifo := s.request.fifo.drop 1 } ∧ Replied s t r (.refused .badArg))
      ∧ (channelOfCode (argU8 r 4) = some c →
        (.request c ∈ s.sampler.demands → busy → Answers .sampleNow s fun t =>
          t.sampler = s.sampler ∧ t.steady = { s.steady with fixed := { s.fixed with fifo := s.request.fifo.drop 1 } }
          ∧ Replied s t r (.done { nothingToDo := true } 0#32))
        ∧ (.request c ∉ s.sampler.demands → busy → Answers .sampleNow s fun t =>
          t.sampler = { s.sampler with demands := s.sampler.demands ++ [.request c] }
          ∧ t.steady = { s.steady with fixed := { s.fixed with fifo := s.request.fifo.drop 1 } }
          ∧ Replied s t r (.done {} 0#32))
        ∧ (s.sampler.converter = .idle → s.sampler.demands = [] → s.power.state ≠ .nap → Answers .sampleNow s fun t =>
          t.sampler = { s.sampler with converter := .converting c .requestDemand s.time 50 }
          ∧ t.steady = { s.steady with fixed := { s.fixed with fifo := s.request.fifo.drop 1 } }
          ∧ Replied s t r (.done {} 0#32)))

/-! ## Downloads -/

/-- R154 to R156: OPEN-DOWNLOAD is refused by its first failing test, or takes the lowest FREE entry; CLOSE-DOWNLOAD frees
the entry of its tag, takes its items out of the copy buffer, and the chunk of that entry in PAYLOAD or CHECK goes on
ignored. -/
def Obligations.DownloadsAreOpenedAndClosed : Prop :=
  ∀ (s : State) (r : List Byte), Steady s →
    let tag := argU32 r 4
    let size := argU32 r 8
    let count := argU16 r 12
    let offset := argU32 r 16
    let holds := fun e : Fin 4 => (s.download e).state ≠ .free ∧ (s.download e).tag = tag
    let plain := { s.fixed with fifo := s.request.fifo.drop 1 }
    let refused := fun (i : Instr) (reason : Reason) => Answers i s fun t =>
      t.steady = { s.steady with fixed := plain } ∧ Replied s t r (.refused reason)
    (Takes .openDownload s r →
      let bad : Prop := tag = 0 ∨ ¬ (size = 4096 ∨ size = 8192 ∨ size = 16384 ∨ size = 32768) ∨ count < 1 ∨ 4096 < count
        ∨ offset % size ≠ 0 ∨ 0x800000 < offset + count * size ∨ ∃ e, holds e
      let full : Prop := ∀ e, (s.download e).state ≠ .free
      let meets : Prop := ∃ e, (s.download e).state ≠ .free ∧ (s.download e).offset < offset + count * size
        ∧ offset < (s.download e).offset + (s.download e).chunkCount * (s.download e).chunkSize
      (bad → refused .openDownload .badArg) ∧ (¬ bad → full → refused .openDownload .tableFull)
      ∧ (¬ bad → ¬ full → meets → refused .openDownload .overlap)
      ∧ (¬ bad → ¬ meets → ∀ e, (s.download e).state = .free → (∀ k, k < e → (s.download k).state ≠ .free) →
          Answers .openDownload s fun t =>
            t.steady = { s.steady with
              fixed := plain
              entries := s.intake.entries.set e ⟨.openState, tag, size, count, offset, [], 0, 0, 0, 0, []⟩ }
            ∧ Replied s t r (.accepted {} (BitVec.ofNat 32 e.val))))
    ∧ (Takes .closeDownload s r →
      (tag = 0 → refused .closeDownload .badArg)
      ∧ (tag ≠ 0 → (∀ e, ¬ holds e) → refused .closeDownload .notFound)
      ∧ (tag ≠ 0 → ∀ e, holds e → (∀ k, holds k → k = e) → Answers .closeDownload s fun t =>
          (t.download e).state = .free ∧ (t.download e).inFlight = []
          ∧ { t.fixed with placed := s.fixed.placed } = plain
          ∧ (∀ c, s.intake.parser = .payload c → c.entry = e → t.intake.parser = .payload { c with kind := .ignore })
          ∧ (∀ c got, s.intake.parser = .check c got → c.entry = e →
              t.intake.parser = .check { c with kind := .ignore } got)
          ∧ (∀ m ∈ t.intake.buffer, m.ofEntry e = false)
          ∧ (let kept := s.intake.buffer.filter fun m => !m.ofEntry e
             s.port.burst.isSome = true → (s.intake.copying ≠ 0 ∨ ∀ g rest, kept ≠ .group g :: rest) →
               t.intake.buffer = kept)
          ∧ Replied s t r (.done {} (BitVec.ofNat 32 (s.download e).good))))

/-! ## Power -/

/-- R175, R178, R181: SET-POWER ACTIVE, DOZE and DEEP, by the power state they find. A value outside the list is refused
BAD-ARG through SET-POWER ACTIVE (the model's choice, log 12), DEEP in a grace phase keeps the departure's reason, TIMER too
(log 25), and a RESTART keeps the levels of the input pins (log 5) and gives the load's host tag and the time a grace began
the reset values the model chose (log 22). R92, R183: a RESTART with lanes active stops the timers,
drops the waiting records and waits; with none it starts the part afresh, with part time, memory and the link as they are
and itself in hand. -/
def Obligations.PowerRequestsMoveThePart : Prop :=
  (∀ (s : State) (r : List Byte),
     let st := s.power.state
     let plain := { s.fixed with fifo := s.request.fifo.drop 1 }
     let answers := fun (i : Instr) (x : Reply) => Answers i s fun t => t.fixed = plain ∧ Replied s t r x
     let nothing : Reply := .done { nothingToDo := true } 0#32
     let departs := fun t : State => t.power.state = .departing .drain ∨ t.power.state = .deep
     (Takes .setPowerActive s r →
       (argU8 r 4 ≠ 0 → answers .setPowerActive (.refused .badArg))
       ∧ (argU8 r 4 = 0 → st = .active → answers .setPowerActive nothing)
       ∧ (argU8 r 4 = 0 → st = .doze → Answers .setPowerActive s fun t =>
           t.fixed = plain ∧ t.power.state = .active ∧ t.power.release = none ∧ Replied s t r (.done {} 0#32))
       ∧ (argU8 r 4 = 0 → ∀ p, st = .departing p → answers .setPowerActive (.refused .state)))
     ∧ (Takes .setPowerDoze s r →
       (st = .active → Answers .setPowerDoze s fun t =>
           t.fixed = plain ∧ t.power.state = .doze ∧ Replied s t r (.done {} 0#32))
       ∧ (st = .doze → answers .setPowerDoze nothing)
       ∧ (∀ p, st = .departing p → answers .setPowerDoze (.refused .state)))
     ∧ (Takes .setPowerDeep s r →
       (st = .active ∨ st = .doze → Answers .setPowerDeep s fun t =>
           t.fixed = { (s.withEntry .power (.departure .request .drain s.power.grace s.power.battery) 0).fixed with
             fifo := s.request.fifo.drop 1
             reason := .request }
           ∧ departs t ∧ Replied s t r (.done {} 0#32))
       ∧ (st = .departing .grace → Answers .setPowerDeep s fun t =>
           t.fixed = plain ∧ departs t ∧ Replied s t r (.done {} 0#32))
       ∧ (st = .departing .drain → answers .setPowerDeep nothing)))
  ∧ (∀ (s : State) (r : List Byte), Takes .restart s r →
       (0 < activeCount s → s.port.burst.isSome = true → Answers .restart s fun t =>
         t.power.restarting = true ∧ t.power.state = s.power.state ∧ t.drive.queue = [] ∧ t.drive.lanes = s.drive.lanes
         ∧ t.power.napTimer = none ∧ t.power.deepTimer = none ∧ t.power.graceTimer = none
         ∧ t.request = ⟨s.request.fifo.drop 1, some r⟩ ∧ t.fixed = { s.fixed with
             fifo := s.request.fifo.drop 1
             restarting := true })
       ∧ (activeCount s = 0 → Answers .restart s fun t =>
         t.fixed = { State.reset.fixed with
           pending := s.pending
           time := s.time
           mem := s.mem
           sent := s.link.sent
           configAnswer := s.link.configAnswer
           good := s.rail.good
           settled := (s.input.phaseA.raw, s.input.phaseB.raw, 0)
           wheel := (0#32, 0, 0, ⟨0#32, 0, 0, .edge, s.time⟩) }
         ∧ t.power.state = .init ∧ t.request = ⟨[], some r⟩ ∧ NoUpdates t ∧ t.rail.state = .off ∧ t.rail.count = 0
         ∧ t.port.retention = s.port.retention))

/-- R173, R175, R178, R179: the nap, deep and grace timers expire; and what the drain's beginning does. That
leaving NAP leaves the prescaler in use as it was is the model's choice (log 45). -/
def Obligations.PowerTimersExpire : Prop :=
  ∀ s : State, s.power.restarting = false →
    let p := s.power
    let departs := fun t : State => t.power.state = .departing .drain ∨ t.power.state = .deep
    let counter := if p.state = .nap then (0, s.light.prescaler) else s.fixed.counter
    let told := fun phase => s.withEntry .power (.departure .timer phase p.grace p.battery) 0
    (Steady s → p.napTimer = none → Answers .napTimerExpiry s fun t => t.steady = s.steady)
    ∧ (Calm s → p.napTimer ≠ none → Answers .napTimerExpiry s fun t =>
        t.calm = { s.calm with power := { p with napTimer := none } })
    ∧ (p.state = .doze → p.napTimer ≠ none → NoUpdates s → s.rail.state = .off → s.light.coolDuty = 0 →
        s.light.warmDuty = 0 → s.intake.parser.inParse = false → s.wave.setState ≠ .loading → s.request = ⟨[], none⟩ →
        Answers .napTimerExpiry s fun t =>
          t.fixed = s.fixed ∧ t.power.state = .nap ∧ t.light.running = false
          ∧ t.port.retention = (if s.port.retention = .serving then .entering else s.port.retention))
    ∧ (Steady s → p.deepTimer = none → Answers .deepTimerExpiry s fun t => t.steady = s.steady)
    ∧ (p.deepTimer ≠ none → p.state = .active ∨ p.state = .doze ∨ p.state = .nap →
        (0 < p.grace → Answers .deepTimerExpiry s fun t =>
          t.fixed = { (told .grace).fixed with reason := .timer, graceBegan := s.time, counter := counter }
          ∧ t.power.state = .departing .grace
          ∧ t.power.graceTimer = some (s.time + BitVec.ofNat 32 (p.grace * 1000)))
        ∧ (p.grace = 0 → Answers .deepTimerExpiry s fun t =>
          t.fixed = { (told .drain).fixed with reason := .timer, counter := counter } ∧ departs t))
    ∧ (Steady s → p.graceTimer = none → Answers .graceTimerExpiry s fun t => t.steady = s.steady)
    ∧ (p.graceTimer ≠ none → p.state = .departing .grace → Answers .graceTimerExpiry s fun t =>
        t.fixed = s.fixed ∧ departs t)
    ∧ (let u := beginDrain s
       u.power.state = .departing .drain ∧ u.power.graceTimer = none ∧ u.power.release = some .deep
       ∧ u.slot.forward = [] ∧ u.slot.back = [] ∧ u.intake.parser.inParse = false
       ∧ u.rail.state ≠ .hold ∧ u.rail.state ≠ .fault ∧ u.light.coolDuty = 0 ∧ u.light.warmDuty = 0
       ∧ (s.rail.state = .fault → u.drive.queue = []))
end

