-- ==== Sys2Proof/Laws/State.lean ====
section
/-! SUPPORT. One lemma per field per state update: what each `State.set…` leaves in each field. -/

namespace Sys2Proof.Machine

@[simp] theorem State.setPending_pending (s : State) (x : List Instr) : (s.setPending x).pending = x := rfl
@[simp] theorem State.setPending_time (s : State) (x : List Instr) : (s.setPending x).time = s.time := rfl
@[simp] theorem State.setPending_mem (s : State) (x : List Instr) : (s.setPending x).mem = s.mem := rfl
@[simp] theorem State.setPending_link (s : State) (x : List Instr) : (s.setPending x).link = s.link := rfl
@[simp] theorem State.setPending_guard (s : State) (x : List Instr) : (s.setPending x).guard = s.guard := rfl
@[simp] theorem State.setPending_port (s : State) (x : List Instr) : (s.setPending x).port = s.port := rfl
@[simp] theorem State.setPending_request (s : State) (x : List Instr) : (s.setPending x).request = s.request := rfl
@[simp] theorem State.setPending_report (s : State) (x : List Instr) : (s.setPending x).report = s.report := rfl
@[simp] theorem State.setPending_slot (s : State) (x : List Instr) : (s.setPending x).slot = s.slot := rfl
@[simp] theorem State.setPending_wave (s : State) (x : List Instr) : (s.setPending x).wave = s.wave := rfl
@[simp] theorem State.setPending_drive (s : State) (x : List Instr) : (s.setPending x).drive = s.drive := rfl
@[simp] theorem State.setPending_rail (s : State) (x : List Instr) : (s.setPending x).rail = s.rail := rfl
@[simp] theorem State.setPending_input (s : State) (x : List Instr) : (s.setPending x).input = s.input := rfl
@[simp] theorem State.setPending_light (s : State) (x : List Instr) : (s.setPending x).light = s.light := rfl
@[simp] theorem State.setPending_sampler (s : State) (x : List Instr) : (s.setPending x).sampler = s.sampler := rfl
@[simp] theorem State.setPending_watches (s : State) (x : List Instr) : (s.setPending x).watches = s.watches := rfl
@[simp] theorem State.setPending_intake (s : State) (x : List Instr) : (s.setPending x).intake = s.intake := rfl
@[simp] theorem State.setPending_power (s : State) (x : List Instr) : (s.setPending x).power = s.power := rfl
@[simp] theorem State.setTime_pending (s : State) (x : Time) : (s.setTime x).pending = s.pending := rfl
@[simp] theorem State.setTime_time (s : State) (x : Time) : (s.setTime x).time = x := rfl
@[simp] theorem State.setTime_mem (s : State) (x : Time) : (s.setTime x).mem = s.mem := rfl
@[simp] theorem State.setTime_link (s : State) (x : Time) : (s.setTime x).link = s.link := rfl
@[simp] theorem State.setTime_guard (s : State) (x : Time) : (s.setTime x).guard = s.guard := rfl
@[simp] theorem State.setTime_port (s : State) (x : Time) : (s.setTime x).port = s.port := rfl
@[simp] theorem State.setTime_request (s : State) (x : Time) : (s.setTime x).request = s.request := rfl
@[simp] theorem State.setTime_report (s : State) (x : Time) : (s.setTime x).report = s.report := rfl
@[simp] theorem State.setTime_slot (s : State) (x : Time) : (s.setTime x).slot = s.slot := rfl
@[simp] theorem State.setTime_wave (s : State) (x : Time) : (s.setTime x).wave = s.wave := rfl
@[simp] theorem State.setTime_drive (s : State) (x : Time) : (s.setTime x).drive = s.drive := rfl
@[simp] theorem State.setTime_rail (s : State) (x : Time) : (s.setTime x).rail = s.rail := rfl
@[simp] theorem State.setTime_input (s : State) (x : Time) : (s.setTime x).input = s.input := rfl
@[simp] theorem State.setTime_light (s : State) (x : Time) : (s.setTime x).light = s.light := rfl
@[simp] theorem State.setTime_sampler (s : State) (x : Time) : (s.setTime x).sampler = s.sampler := rfl
@[simp] theorem State.setTime_watches (s : State) (x : Time) : (s.setTime x).watches = s.watches := rfl
@[simp] theorem State.setTime_intake (s : State) (x : Time) : (s.setTime x).intake = s.intake := rfl
@[simp] theorem State.setTime_power (s : State) (x : Time) : (s.setTime x).power = s.power := rfl
@[simp] theorem State.setMem_pending (s : State) (x : Memory) : (s.setMem x).pending = s.pending := rfl
@[simp] theorem State.setMem_time (s : State) (x : Memory) : (s.setMem x).time = s.time := rfl
@[simp] theorem State.setMem_mem (s : State) (x : Memory) : (s.setMem x).mem = x := rfl
@[simp] theorem State.setMem_link (s : State) (x : Memory) : (s.setMem x).link = s.link := rfl
@[simp] theorem State.setMem_guard (s : State) (x : Memory) : (s.setMem x).guard = s.guard := rfl
@[simp] theorem State.setMem_port (s : State) (x : Memory) : (s.setMem x).port = s.port := rfl
@[simp] theorem State.setMem_request (s : State) (x : Memory) : (s.setMem x).request = s.request := rfl
@[simp] theorem State.setMem_report (s : State) (x : Memory) : (s.setMem x).report = s.report := rfl
@[simp] theorem State.setMem_slot (s : State) (x : Memory) : (s.setMem x).slot = s.slot := rfl
@[simp] theorem State.setMem_wave (s : State) (x : Memory) : (s.setMem x).wave = s.wave := rfl
@[simp] theorem State.setMem_drive (s : State) (x : Memory) : (s.setMem x).drive = s.drive := rfl
@[simp] theorem State.setMem_rail (s : State) (x : Memory) : (s.setMem x).rail = s.rail := rfl
@[simp] theorem State.setMem_input (s : State) (x : Memory) : (s.setMem x).input = s.input := rfl
@[simp] theorem State.setMem_light (s : State) (x : Memory) : (s.setMem x).light = s.light := rfl
@[simp] theorem State.setMem_sampler (s : State) (x : Memory) : (s.setMem x).sampler = s.sampler := rfl
@[simp] theorem State.setMem_watches (s : State) (x : Memory) : (s.setMem x).watches = s.watches := rfl
@[simp] theorem State.setMem_intake (s : State) (x : Memory) : (s.setMem x).intake = s.intake := rfl
@[simp] theorem State.setMem_power (s : State) (x : Memory) : (s.setMem x).power = s.power := rfl
@[simp] theorem State.setLink_pending (s : State) (x : Link) : (s.setLink x).pending = s.pending := rfl
@[simp] theorem State.setLink_time (s : State) (x : Link) : (s.setLink x).time = s.time := rfl
@[simp] theorem State.setLink_mem (s : State) (x : Link) : (s.setLink x).mem = s.mem := rfl
@[simp] theorem State.setLink_link (s : State) (x : Link) : (s.setLink x).link = x := rfl
@[simp] theorem State.setLink_guard (s : State) (x : Link) : (s.setLink x).guard = s.guard := rfl
@[simp] theorem State.setLink_port (s : State) (x : Link) : (s.setLink x).port = s.port := rfl
@[simp] theorem State.setLink_request (s : State) (x : Link) : (s.setLink x).request = s.request := rfl
@[simp] theorem State.setLink_report (s : State) (x : Link) : (s.setLink x).report = s.report := rfl
@[simp] theorem State.setLink_slot (s : State) (x : Link) : (s.setLink x).slot = s.slot := rfl
@[simp] theorem State.setLink_wave (s : State) (x : Link) : (s.setLink x).wave = s.wave := rfl
@[simp] theorem State.setLink_drive (s : State) (x : Link) : (s.setLink x).drive = s.drive := rfl
@[simp] theorem State.setLink_rail (s : State) (x : Link) : (s.setLink x).rail = s.rail := rfl
@[simp] theorem State.setLink_input (s : State) (x : Link) : (s.setLink x).input = s.input := rfl
@[simp] theorem State.setLink_light (s : State) (x : Link) : (s.setLink x).light = s.light := rfl
@[simp] theorem State.setLink_sampler (s : State) (x : Link) : (s.setLink x).sampler = s.sampler := rfl
@[simp] theorem State.setLink_watches (s : State) (x : Link) : (s.setLink x).watches = s.watches := rfl
@[simp] theorem State.setLink_intake (s : State) (x : Link) : (s.setLink x).intake = s.intake := rfl
@[simp] theorem State.setLink_power (s : State) (x : Link) : (s.setLink x).power = s.power := rfl
@[simp] theorem State.setGuard_pending (s : State) (x : Guard) : (s.setGuard x).pending = s.pending := rfl
@[simp] theorem State.setGuard_time (s : State) (x : Guard) : (s.setGuard x).time = s.time := rfl
@[simp] theorem State.setGuard_mem (s : State) (x : Guard) : (s.setGuard x).mem = s.mem := rfl
@[simp] theorem State.setGuard_link (s : State) (x : Guard) : (s.setGuard x).link = s.link := rfl
@[simp] theorem State.setGuard_guard (s : State) (x : Guard) : (s.setGuard x).guard = x := rfl
@[simp] theorem State.setGuard_port (s : State) (x : Guard) : (s.setGuard x).port = s.port := rfl
@[simp] theorem State.setGuard_request (s : State) (x : Guard) : (s.setGuard x).request = s.request := rfl
@[simp] theorem State.setGuard_report (s : State) (x : Guard) : (s.setGuard x).report = s.report := rfl
@[simp] theorem State.setGuard_slot (s : State) (x : Guard) : (s.setGuard x).slot = s.slot := rfl
@[simp] theorem State.setGuard_wave (s : State) (x : Guard) : (s.setGuard x).wave = s.wave := rfl
@[simp] theorem State.setGuard_drive (s : State) (x : Guard) : (s.setGuard x).drive = s.drive := rfl
@[simp] theorem State.setGuard_rail (s : State) (x : Guard) : (s.setGuard x).rail = s.rail := rfl
@[simp] theorem State.setGuard_input (s : State) (x : Guard) : (s.setGuard x).input = s.input := rfl
@[simp] theorem State.setGuard_light (s : State) (x : Guard) : (s.setGuard x).light = s.light := rfl
@[simp] theorem State.setGuard_sampler (s : State) (x : Guard) : (s.setGuard x).sampler = s.sampler := rfl
@[simp] theorem State.setGuard_watches (s : State) (x : Guard) : (s.setGuard x).watches = s.watches := rfl
@[simp] theorem State.setGuard_intake (s : State) (x : Guard) : (s.setGuard x).intake = s.intake := rfl
@[simp] theorem State.setGuard_power (s : State) (x : Guard) : (s.setGuard x).power = s.power := rfl
@[simp] theorem State.setPort_pending (s : State) (x : Port) : (s.setPort x).pending = s.pending := rfl
@[simp] theorem State.setPort_time (s : State) (x : Port) : (s.setPort x).time = s.time := rfl
@[simp] theorem State.setPort_mem (s : State) (x : Port) : (s.setPort x).mem = s.mem := rfl
@[simp] theorem State.setPort_link (s : State) (x : Port) : (s.setPort x).link = s.link := rfl
@[simp] theorem State.setPort_guard (s : State) (x : Port) : (s.setPort x).guard = s.guard := rfl
@[simp] theorem State.setPort_port (s : State) (x : Port) : (s.setPort x).port = x := rfl
@[simp] theorem State.setPort_request (s : State) (x : Port) : (s.setPort x).request = s.request := rfl
@[simp] theorem State.setPort_report (s : State) (x : Port) : (s.setPort x).report = s.report := rfl
@[simp] theorem State.setPort_slot (s : State) (x : Port) : (s.setPort x).slot = s.slot := rfl
@[simp] theorem State.setPort_wave (s : State) (x : Port) : (s.setPort x).wave = s.wave := rfl
@[simp] theorem State.setPort_drive (s : State) (x : Port) : (s.setPort x).drive = s.drive := rfl
@[simp] theorem State.setPort_rail (s : State) (x : Port) : (s.setPort x).rail = s.rail := rfl
@[simp] theorem State.setPort_input (s : State) (x : Port) : (s.setPort x).input = s.input := rfl
@[simp] theorem State.setPort_light (s : State) (x : Port) : (s.setPort x).light = s.light := rfl
@[simp] theorem State.setPort_sampler (s : State) (x : Port) : (s.setPort x).sampler = s.sampler := rfl
@[simp] theorem State.setPort_watches (s : State) (x : Port) : (s.setPort x).watches = s.watches := rfl
@[simp] theorem State.setPort_intake (s : State) (x : Port) : (s.setPort x).intake = s.intake := rfl
@[simp] theorem State.setPort_power (s : State) (x : Port) : (s.setPort x).power = s.power := rfl
@[simp] theorem State.setRequest_pending (s : State) (x : RequestUnit) : (s.setRequest x).pending = s.pending := rfl
@[simp] theorem State.setRequest_time (s : State) (x : RequestUnit) : (s.setRequest x).time = s.time := rfl
@[simp] theorem State.setRequest_mem (s : State) (x : RequestUnit) : (s.setRequest x).mem = s.mem := rfl
@[simp] theorem State.setRequest_link (s : State) (x : RequestUnit) : (s.setRequest x).link = s.link := rfl
@[simp] theorem State.setRequest_guard (s : State) (x : RequestUnit) : (s.setRequest x).guard = s.guard := rfl
@[simp] theorem State.setRequest_port (s : State) (x : RequestUnit) : (s.setRequest x).port = s.port := rfl
@[simp] theorem State.setRequest_request (s : State) (x : RequestUnit) : (s.setRequest x).request = x := rfl
@[simp] theorem State.setRequest_report (s : State) (x : RequestUnit) : (s.setRequest x).report = s.report := rfl
@[simp] theorem State.setRequest_slot (s : State) (x : RequestUnit) : (s.setRequest x).slot = s.slot := rfl
@[simp] theorem State.setRequest_wave (s : State) (x : RequestUnit) : (s.setRequest x).wave = s.wave := rfl
@[simp] theorem State.setRequest_drive (s : State) (x : RequestUnit) : (s.setRequest x).drive = s.drive := rfl
@[simp] theorem State.setRequest_rail (s : State) (x : RequestUnit) : (s.setRequest x).rail = s.rail := rfl
@[simp] theorem State.setRequest_input (s : State) (x : RequestUnit) : (s.setRequest x).input = s.input := rfl
@[simp] theorem State.setRequest_light (s : State) (x : RequestUnit) : (s.setRequest x).light = s.light := rfl
@[simp] theorem State.setRequest_sampler (s : State) (x : RequestUnit) : (s.setRequest x).sampler = s.sampler := rfl
@[simp] theorem State.setRequest_watches (s : State) (x : RequestUnit) : (s.setRequest x).watches = s.watches := rfl
@[simp] theorem State.setRequest_intake (s : State) (x : RequestUnit) : (s.setRequest x).intake = s.intake := rfl
@[simp] theorem State.setRequest_power (s : State) (x : RequestUnit) : (s.setRequest x).power = s.power := rfl
@[simp] theorem State.setReport_pending (s : State) (x : ReportUnit) : (s.setReport x).pending = s.pending := rfl
@[simp] theorem State.setReport_time (s : State) (x : ReportUnit) : (s.setReport x).time = s.time := rfl
@[simp] theorem State.setReport_mem (s : State) (x : ReportUnit) : (s.setReport x).mem = s.mem := rfl
@[simp] theorem State.setReport_link (s : State) (x : ReportUnit) : (s.setReport x).link = s.link := rfl
@[simp] theorem State.setReport_guard (s : State) (x : ReportUnit) : (s.setReport x).guard = s.guard := rfl
@[simp] theorem State.setReport_port (s : State) (x : ReportUnit) : (s.setReport x).port = s.port := rfl
@[simp] theorem State.setReport_request (s : State) (x : ReportUnit) : (s.setReport x).request = s.request := rfl
@[simp] theorem State.setReport_report (s : State) (x : ReportUnit) : (s.setReport x).report = x := rfl
@[simp] theorem State.setReport_slot (s : State) (x : ReportUnit) : (s.setReport x).slot = s.slot := rfl
@[simp] theorem State.setReport_wave (s : State) (x : ReportUnit) : (s.setReport x).wave = s.wave := rfl
@[simp] theorem State.setReport_drive (s : State) (x : ReportUnit) : (s.setReport x).drive = s.drive := rfl
@[simp] theorem State.setReport_rail (s : State) (x : ReportUnit) : (s.setReport x).rail = s.rail := rfl
@[simp] theorem State.setReport_input (s : State) (x : ReportUnit) : (s.setReport x).input = s.input := rfl
@[simp] theorem State.setReport_light (s : State) (x : ReportUnit) : (s.setReport x).light = s.light := rfl
@[simp] theorem State.setReport_sampler (s : State) (x : ReportUnit) : (s.setReport x).sampler = s.sampler := rfl
@[simp] theorem State.setReport_watches (s : State) (x : ReportUnit) : (s.setReport x).watches = s.watches := rfl
@[simp] theorem State.setReport_intake (s : State) (x : ReportUnit) : (s.setReport x).intake = s.intake := rfl
@[simp] theorem State.setReport_power (s : State) (x : ReportUnit) : (s.setReport x).power = s.power := rfl
@[simp] theorem State.setSlot_pending (s : State) (x : SlotUnit) : (s.setSlot x).pending = s.pending := rfl
@[simp] theorem State.setSlot_time (s : State) (x : SlotUnit) : (s.setSlot x).time = s.time := rfl
@[simp] theorem State.setSlot_mem (s : State) (x : SlotUnit) : (s.setSlot x).mem = s.mem := rfl
@[simp] theorem State.setSlot_link (s : State) (x : SlotUnit) : (s.setSlot x).link = s.link := rfl
@[simp] theorem State.setSlot_guard (s : State) (x : SlotUnit) : (s.setSlot x).guard = s.guard := rfl
@[simp] theorem State.setSlot_port (s : State) (x : SlotUnit) : (s.setSlot x).port = s.port := rfl
@[simp] theorem State.setSlot_request (s : State) (x : SlotUnit) : (s.setSlot x).request = s.request := rfl
@[simp] theorem State.setSlot_report (s : State) (x : SlotUnit) : (s.setSlot x).report = s.report := rfl
@[simp] theorem State.setSlot_slot (s : State) (x : SlotUnit) : (s.setSlot x).slot = x := rfl
@[simp] theorem State.setSlot_wave (s : State) (x : SlotUnit) : (s.setSlot x).wave = s.wave := rfl
@[simp] theorem State.setSlot_drive (s : State) (x : SlotUnit) : (s.setSlot x).drive = s.drive := rfl
@[simp] theorem State.setSlot_rail (s : State) (x : SlotUnit) : (s.setSlot x).rail = s.rail := rfl
@[simp] theorem State.setSlot_input (s : State) (x : SlotUnit) : (s.setSlot x).input = s.input := rfl
@[simp] theorem State.setSlot_light (s : State) (x : SlotUnit) : (s.setSlot x).light = s.light := rfl
@[simp] theorem State.setSlot_sampler (s : State) (x : SlotUnit) : (s.setSlot x).sampler = s.sampler := rfl
@[simp] theorem State.setSlot_watches (s : State) (x : SlotUnit) : (s.setSlot x).watches = s.watches := rfl
@[simp] theorem State.setSlot_intake (s : State) (x : SlotUnit) : (s.setSlot x).intake = s.intake := rfl
@[simp] theorem State.setSlot_power (s : State) (x : SlotUnit) : (s.setSlot x).power = s.power := rfl
@[simp] theorem State.setWave_pending (s : State) (x : WaveUnit) : (s.setWave x).pending = s.pending := rfl
@[simp] theorem State.setWave_time (s : State) (x : WaveUnit) : (s.setWave x).time = s.time := rfl
@[simp] theorem State.setWave_mem (s : State) (x : WaveUnit) : (s.setWave x).mem = s.mem := rfl
@[simp] theorem State.setWave_link (s : State) (x : WaveUnit) : (s.setWave x).link = s.link := rfl
@[simp] theorem State.setWave_guard (s : State) (x : WaveUnit) : (s.setWave x).guard = s.guard := rfl
@[simp] theorem State.setWave_port (s : State) (x : WaveUnit) : (s.setWave x).port = s.port := rfl
@[simp] theorem State.setWave_request (s : State) (x : WaveUnit) : (s.setWave x).request = s.request := rfl
@[simp] theorem State.setWave_report (s : State) (x : WaveUnit) : (s.setWave x).report = s.report := rfl
@[simp] theorem State.setWave_slot (s : State) (x : WaveUnit) : (s.setWave x).slot = s.slot := rfl
@[simp] theorem State.setWave_wave (s : State) (x : WaveUnit) : (s.setWave x).wave = x := rfl
@[simp] theorem State.setWave_drive (s : State) (x : WaveUnit) : (s.setWave x).drive = s.drive := rfl
@[simp] theorem State.setWave_rail (s : State) (x : WaveUnit) : (s.setWave x).rail = s.rail := rfl
@[simp] theorem State.setWave_input (s : State) (x : WaveUnit) : (s.setWave x).input = s.input := rfl
@[simp] theorem State.setWave_light (s : State) (x : WaveUnit) : (s.setWave x).light = s.light := rfl
@[simp] theorem State.setWave_sampler (s : State) (x : WaveUnit) : (s.setWave x).sampler = s.sampler := rfl
@[simp] theorem State.setWave_watches (s : State) (x : WaveUnit) : (s.setWave x).watches = s.watches := rfl
@[simp] theorem State.setWave_intake (s : State) (x : WaveUnit) : (s.setWave x).intake = s.intake := rfl
@[simp] theorem State.setWave_power (s : State) (x : WaveUnit) : (s.setWave x).power = s.power := rfl
@[simp] theorem State.setDrive_pending (s : State) (x : DriveEngine) : (s.setDrive x).pending = s.pending := rfl
@[simp] theorem State.setDrive_time (s : State) (x : DriveEngine) : (s.setDrive x).time = s.time := rfl
@[simp] theorem State.setDrive_mem (s : State) (x : DriveEngine) : (s.setDrive x).mem = s.mem := rfl
@[simp] theorem State.setDrive_link (s : State) (x : DriveEngine) : (s.setDrive x).link = s.link := rfl
@[simp] theorem State.setDrive_guard (s : State) (x : DriveEngine) : (s.setDrive x).guard = s.guard := rfl
@[simp] theorem State.setDrive_port (s : State) (x : DriveEngine) : (s.setDrive x).port = s.port := rfl
@[simp] theorem State.setDrive_request (s : State) (x : DriveEngine) : (s.setDrive x).request = s.request := rfl
@[simp] theorem State.setDrive_report (s : State) (x : DriveEngine) : (s.setDrive x).report = s.report := rfl
@[simp] theorem State.setDrive_slot (s : State) (x : DriveEngine) : (s.setDrive x).slot = s.slot := rfl
@[simp] theorem State.setDrive_wave (s : State) (x : DriveEngine) : (s.setDrive x).wave = s.wave := rfl
@[simp] theorem State.setDrive_drive (s : State) (x : DriveEngine) : (s.setDrive x).drive = x := rfl
@[simp] theorem State.setDrive_rail (s : State) (x : DriveEngine) : (s.setDrive x).rail = s.rail := rfl
@[simp] theorem State.setDrive_input (s : State) (x : DriveEngine) : (s.setDrive x).input = s.input := rfl
@[simp] theorem State.setDrive_light (s : State) (x : DriveEngine) : (s.setDrive x).light = s.light := rfl
@[simp] theorem State.setDrive_sampler (s : State) (x : DriveEngine) : (s.setDrive x).sampler = s.sampler := rfl
@[simp] theorem State.setDrive_watches (s : State) (x : DriveEngine) : (s.setDrive x).watches = s.watches := rfl
@[simp] theorem State.setDrive_intake (s : State) (x : DriveEngine) : (s.setDrive x).intake = s.intake := rfl
@[simp] theorem State.setDrive_power (s : State) (x : DriveEngine) : (s.setDrive x).power = s.power := rfl
@[simp] theorem State.setRail_pending (s : State) (x : Rail) : (s.setRail x).pending = s.pending := rfl
@[simp] theorem State.setRail_time (s : State) (x : Rail) : (s.setRail x).time = s.time := rfl
@[simp] theorem State.setRail_mem (s : State) (x : Rail) : (s.setRail x).mem = s.mem := rfl
@[simp] theorem State.setRail_link (s : State) (x : Rail) : (s.setRail x).link = s.link := rfl
@[simp] theorem State.setRail_guard (s : State) (x : Rail) : (s.setRail x).guard = s.guard := rfl
@[simp] theorem State.setRail_port (s : State) (x : Rail) : (s.setRail x).port = s.port := rfl
@[simp] theorem State.setRail_request (s : State) (x : Rail) : (s.setRail x).request = s.request := rfl
@[simp] theorem State.setRail_report (s : State) (x : Rail) : (s.setRail x).report = s.report := rfl
@[simp] theorem State.setRail_slot (s : State) (x : Rail) : (s.setRail x).slot = s.slot := rfl
@[simp] theorem State.setRail_wave (s : State) (x : Rail) : (s.setRail x).wave = s.wave := rfl
@[simp] theorem State.setRail_drive (s : State) (x : Rail) : (s.setRail x).drive = s.drive := rfl
@[simp] theorem State.setRail_rail (s : State) (x : Rail) : (s.setRail x).rail = x := rfl
@[simp] theorem State.setRail_input (s : State) (x : Rail) : (s.setRail x).input = s.input := rfl
@[simp] theorem State.setRail_light (s : State) (x : Rail) : (s.setRail x).light = s.light := rfl
@[simp] theorem State.setRail_sampler (s : State) (x : Rail) : (s.setRail x).sampler = s.sampler := rfl
@[simp] theorem State.setRail_watches (s : State) (x : Rail) : (s.setRail x).watches = s.watches := rfl
@[simp] theorem State.setRail_intake (s : State) (x : Rail) : (s.setRail x).intake = s.intake := rfl
@[simp] theorem State.setRail_power (s : State) (x : Rail) : (s.setRail x).power = s.power := rfl
@[simp] theorem State.setInput_pending (s : State) (x : InputUnit) : (s.setInput x).pending = s.pending := rfl
@[simp] theorem State.setInput_time (s : State) (x : InputUnit) : (s.setInput x).time = s.time := rfl
@[simp] theorem State.setInput_mem (s : State) (x : InputUnit) : (s.setInput x).mem = s.mem := rfl
@[simp] theorem State.setInput_link (s : State) (x : InputUnit) : (s.setInput x).link = s.link := rfl
@[simp] theorem State.setInput_guard (s : State) (x : InputUnit) : (s.setInput x).guard = s.guard := rfl
@[simp] theorem State.setInput_port (s : State) (x : InputUnit) : (s.setInput x).port = s.port := rfl
@[simp] theorem State.setInput_request (s : State) (x : InputUnit) : (s.setInput x).request = s.request := rfl
@[simp] theorem State.setInput_report (s : State) (x : InputUnit) : (s.setInput x).report = s.report := rfl
@[simp] theorem State.setInput_slot (s : State) (x : InputUnit) : (s.setInput x).slot = s.slot := rfl
@[simp] theorem State.setInput_wave (s : State) (x : InputUnit) : (s.setInput x).wave = s.wave := rfl
@[simp] theorem State.setInput_drive (s : State) (x : InputUnit) : (s.setInput x).drive = s.drive := rfl
@[simp] theorem State.setInput_rail (s : State) (x : InputUnit) : (s.setInput x).rail = s.rail := rfl
@[simp] theorem State.setInput_input (s : State) (x : InputUnit) : (s.setInput x).input = x := rfl
@[simp] theorem State.setInput_light (s : State) (x : InputUnit) : (s.setInput x).light = s.light := rfl
@[simp] theorem State.setInput_sampler (s : State) (x : InputUnit) : (s.setInput x).sampler = s.sampler := rfl
@[simp] theorem State.setInput_watches (s : State) (x : InputUnit) : (s.setInput x).watches = s.watches := rfl
@[simp] theorem State.setInput_intake (s : State) (x : InputUnit) : (s.setInput x).intake = s.intake := rfl
@[simp] theorem State.setInput_power (s : State) (x : InputUnit) : (s.setInput x).power = s.power := rfl
@[simp] theorem State.setLight_pending (s : State) (x : LightUnit) : (s.setLight x).pending = s.pending := rfl
@[simp] theorem State.setLight_time (s : State) (x : LightUnit) : (s.setLight x).time = s.time := rfl
@[simp] theorem State.setLight_mem (s : State) (x : LightUnit) : (s.setLight x).mem = s.mem := rfl
@[simp] theorem State.setLight_link (s : State) (x : LightUnit) : (s.setLight x).link = s.link := rfl
@[simp] theorem State.setLight_guard (s : State) (x : LightUnit) : (s.setLight x).guard = s.guard := rfl
@[simp] theorem State.setLight_port (s : State) (x : LightUnit) : (s.setLight x).port = s.port := rfl
@[simp] theorem State.setLight_request (s : State) (x : LightUnit) : (s.setLight x).request = s.request := rfl
@[simp] theorem State.setLight_report (s : State) (x : LightUnit) : (s.setLight x).report = s.report := rfl
@[simp] theorem State.setLight_slot (s : State) (x : LightUnit) : (s.setLight x).slot = s.slot := rfl
@[simp] theorem State.setLight_wave (s : State) (x : LightUnit) : (s.setLight x).wave = s.wave := rfl
@[simp] theorem State.setLight_drive (s : State) (x : LightUnit) : (s.setLight x).drive = s.drive := rfl
@[simp] theorem State.setLight_rail (s : State) (x : LightUnit) : (s.setLight x).rail = s.rail := rfl
@[simp] theorem State.setLight_input (s : State) (x : LightUnit) : (s.setLight x).input = s.input := rfl
@[simp] theorem State.setLight_light (s : State) (x : LightUnit) : (s.setLight x).light = x := rfl
@[simp] theorem State.setLight_sampler (s : State) (x : LightUnit) : (s.setLight x).sampler = s.sampler := rfl
@[simp] theorem State.setLight_watches (s : State) (x : LightUnit) : (s.setLight x).watches = s.watches := rfl
@[simp] theorem State.setLight_intake (s : State) (x : LightUnit) : (s.setLight x).intake = s.intake := rfl
@[simp] theorem State.setLight_power (s : State) (x : LightUnit) : (s.setLight x).power = s.power := rfl
@[simp] theorem State.setSampler_pending (s : State) (x : Sampler) : (s.setSampler x).pending = s.pending := rfl
@[simp] theorem State.setSampler_time (s : State) (x : Sampler) : (s.setSampler x).time = s.time := rfl
@[simp] theorem State.setSampler_mem (s : State) (x : Sampler) : (s.setSampler x).mem = s.mem := rfl
@[simp] theorem State.setSampler_link (s : State) (x : Sampler) : (s.setSampler x).link = s.link := rfl
@[simp] theorem State.setSampler_guard (s : State) (x : Sampler) : (s.setSampler x).guard = s.guard := rfl
@[simp] theorem State.setSampler_port (s : State) (x : Sampler) : (s.setSampler x).port = s.port := rfl
@[simp] theorem State.setSampler_request (s : State) (x : Sampler) : (s.setSampler x).request = s.request := rfl
@[simp] theorem State.setSampler_report (s : State) (x : Sampler) : (s.setSampler x).report = s.report := rfl
@[simp] theorem State.setSampler_slot (s : State) (x : Sampler) : (s.setSampler x).slot = s.slot := rfl
@[simp] theorem State.setSampler_wave (s : State) (x : Sampler) : (s.setSampler x).wave = s.wave := rfl
@[simp] theorem State.setSampler_drive (s : State) (x : Sampler) : (s.setSampler x).drive = s.drive := rfl
@[simp] theorem State.setSampler_rail (s : State) (x : Sampler) : (s.setSampler x).rail = s.rail := rfl
@[simp] theorem State.setSampler_input (s : State) (x : Sampler) : (s.setSampler x).input = s.input := rfl
@[simp] theorem State.setSampler_light (s : State) (x : Sampler) : (s.setSampler x).light = s.light := rfl
@[simp] theorem State.setSampler_sampler (s : State) (x : Sampler) : (s.setSampler x).sampler = x := rfl
@[simp] theorem State.setSampler_watches (s : State) (x : Sampler) : (s.setSampler x).watches = s.watches := rfl
@[simp] theorem State.setSampler_intake (s : State) (x : Sampler) : (s.setSampler x).intake = s.intake := rfl
@[simp] theorem State.setSampler_power (s : State) (x : Sampler) : (s.setSampler x).power = s.power := rfl
@[simp] theorem State.setWatches_pending (s : State) (x : Vector Watch 8) : (s.setWatches x).pending = s.pending := rfl
@[simp] theorem State.setWatches_time (s : State) (x : Vector Watch 8) : (s.setWatches x).time = s.time := rfl
@[simp] theorem State.setWatches_mem (s : State) (x : Vector Watch 8) : (s.setWatches x).mem = s.mem := rfl
@[simp] theorem State.setWatches_link (s : State) (x : Vector Watch 8) : (s.setWatches x).link = s.link := rfl
@[simp] theorem State.setWatches_guard (s : State) (x : Vector Watch 8) : (s.setWatches x).guard = s.guard := rfl
@[simp] theorem State.setWatches_port (s : State) (x : Vector Watch 8) : (s.setWatches x).port = s.port := rfl
@[simp] theorem State.setWatches_request (s : State) (x : Vector Watch 8) : (s.setWatches x).request = s.request := rfl
@[simp] theorem State.setWatches_report (s : State) (x : Vector Watch 8) : (s.setWatches x).report = s.report := rfl
@[simp] theorem State.setWatches_slot (s : State) (x : Vector Watch 8) : (s.setWatches x).slot = s.slot := rfl
@[simp] theorem State.setWatches_wave (s : State) (x : Vector Watch 8) : (s.setWatches x).wave = s.wave := rfl
@[simp] theorem State.setWatches_drive (s : State) (x : Vector Watch 8) : (s.setWatches x).drive = s.drive := rfl
@[simp] theorem State.setWatches_rail (s : State) (x : Vector Watch 8) : (s.setWatches x).rail = s.rail := rfl
@[simp] theorem State.setWatches_input (s : State) (x : Vector Watch 8) : (s.setWatches x).input = s.input := rfl
@[simp] theorem State.setWatches_light (s : State) (x : Vector Watch 8) : (s.setWatches x).light = s.light := rfl
@[simp] theorem State.setWatches_sampler (s : State) (x : Vector Watch 8) : (s.setWatches x).sampler = s.sampler := rfl
@[simp] theorem State.setWatches_watches (s : State) (x : Vector Watch 8) : (s.setWatches x).watches = x := rfl
@[simp] theorem State.setWatches_intake (s : State) (x : Vector Watch 8) : (s.setWatches x).intake = s.intake := rfl
@[simp] theorem State.setWatches_power (s : State) (x : Vector Watch 8) : (s.setWatches x).power = s.power := rfl
@[simp] theorem State.setIntake_pending (s : State) (x : Intake) : (s.setIntake x).pending = s.pending := rfl
@[simp] theorem State.setIntake_time (s : State) (x : Intake) : (s.setIntake x).time = s.time := rfl
@[simp] theorem State.setIntake_mem (s : State) (x : Intake) : (s.setIntake x).mem = s.mem := rfl
@[simp] theorem State.setIntake_link (s : State) (x : Intake) : (s.setIntake x).link = s.link := rfl
@[simp] theorem State.setIntake_guard (s : State) (x : Intake) : (s.setIntake x).guard = s.guard := rfl
@[simp] theorem State.setIntake_port (s : State) (x : Intake) : (s.setIntake x).port = s.port := rfl
@[simp] theorem State.setIntake_request (s : State) (x : Intake) : (s.setIntake x).request = s.request := rfl
@[simp] theorem State.setIntake_report (s : State) (x : Intake) : (s.setIntake x).report = s.report := rfl
@[simp] theorem State.setIntake_slot (s : State) (x : Intake) : (s.setIntake x).slot = s.slot := rfl
@[simp] theorem State.setIntake_wave (s : State) (x : Intake) : (s.setIntake x).wave = s.wave := rfl
@[simp] theorem State.setIntake_drive (s : State) (x : Intake) : (s.setIntake x).drive = s.drive := rfl
@[simp] theorem State.setIntake_rail (s : State) (x : Intake) : (s.setIntake x).rail = s.rail := rfl
@[simp] theorem State.setIntake_input (s : State) (x : Intake) : (s.setIntake x).input = s.input := rfl
@[simp] theorem State.setIntake_light (s : State) (x : Intake) : (s.setIntake x).light = s.light := rfl
@[simp] theorem State.setIntake_sampler (s : State) (x : Intake) : (s.setIntake x).sampler = s.sampler := rfl
@[simp] theorem State.setIntake_watches (s : State) (x : Intake) : (s.setIntake x).watches = s.watches := rfl
@[simp] theorem State.setIntake_intake (s : State) (x : Intake) : (s.setIntake x).intake = x := rfl
@[simp] theorem State.setIntake_power (s : State) (x : Intake) : (s.setIntake x).power = s.power := rfl
@[simp] theorem State.setPower_pending (s : State) (x : Power) : (s.setPower x).pending = s.pending := rfl
@[simp] theorem State.setPower_time (s : State) (x : Power) : (s.setPower x).time = s.time := rfl
@[simp] theorem State.setPower_mem (s : State) (x : Power) : (s.setPower x).mem = s.mem := rfl
@[simp] theorem State.setPower_link (s : State) (x : Power) : (s.setPower x).link = s.link := rfl
@[simp] theorem State.setPower_guard (s : State) (x : Power) : (s.setPower x).guard = s.guard := rfl
@[simp] theorem State.setPower_port (s : State) (x : Power) : (s.setPower x).port = s.port := rfl
@[simp] theorem State.setPower_request (s : State) (x : Power) : (s.setPower x).request = s.request := rfl
@[simp] theorem State.setPower_report (s : State) (x : Power) : (s.setPower x).report = s.report := rfl
@[simp] theorem State.setPower_slot (s : State) (x : Power) : (s.setPower x).slot = s.slot := rfl
@[simp] theorem State.setPower_wave (s : State) (x : Power) : (s.setPower x).wave = s.wave := rfl
@[simp] theorem State.setPower_drive (s : State) (x : Power) : (s.setPower x).drive = s.drive := rfl
@[simp] theorem State.setPower_rail (s : State) (x : Power) : (s.setPower x).rail = s.rail := rfl
@[simp] theorem State.setPower_input (s : State) (x : Power) : (s.setPower x).input = s.input := rfl
@[simp] theorem State.setPower_light (s : State) (x : Power) : (s.setPower x).light = s.light := rfl
@[simp] theorem State.setPower_sampler (s : State) (x : Power) : (s.setPower x).sampler = s.sampler := rfl
@[simp] theorem State.setPower_watches (s : State) (x : Power) : (s.setPower x).watches = s.watches := rfl
@[simp] theorem State.setPower_intake (s : State) (x : Power) : (s.setPower x).intake = s.intake := rfl
@[simp] theorem State.setPower_power (s : State) (x : Power) : (s.setPower x).power = x := rfl

end Sys2Proof.Machine
end

