-- ==== Sys2Proof/Laws/Fixed.lean ====
section
/-! SUPPORT. What the end of a command leaves alone: no decision at the end of a command changes `State.fixed` (log 8)
while no RESTART waits; `finish_fixed` says so once. -/

namespace Sys2Proof.Machine

/-! ## Setters -/

@[simp] theorem fixed_setPort (s : State) (x : Port) : (s.setPort x).fixed = s.fixed := rfl

/-! ## Records, activity, rings -/

@[simp] theorem changeRecord_fixed (r : RecordId) (s : State) : (changeRecord r s).fixed = s.fixed := by
  unfold changeRecord; split <;> rfl

@[simp] theorem reportActivity_fixed (s : State) : (reportActivity s).fixed = s.fixed := by
  unfold reportActivity Power.activity Power.startTimers
  cases h : s.power.timersRun <;> simp [Power.timersRun] at * <;> rfl

@[simp] theorem changePower_fixed (s : State) : (changePower s).fixed = s.fixed := by
  unfold changePower; rw [changeRecord_fixed]; rfl

@[simp] theorem changeLight_fixed (s : State) : (changeLight s).fixed = s.fixed := by
  unfold changeLight; rw [changeRecord_fixed]; rfl

@[simp] theorem recomputeNotice_fixed (s : State) : (recomputeNotice s).fixed = s.fixed := by
  unfold recomputeNotice; simp only []; split
  · rfl
  · rw [changeRecord_fixed]; rfl

/-- The rings whose entries the end of a command may produce: UPDATE-END and REPLY (R86, R182, R25). -/
theorem produce_fixed (i : RingId) (h : i = .display ∨ i = .reply) (b : EntryBody) (tag : Nat) (s : State) :
    (produce i b tag s).fixed = s.fixed := by
  unfold produce; simp only [recomputeNotice_fixed, changeRecord_fixed]
  rcases h with rfl | rfl <;> simp only [placeEntry] <;> split <;> rfl

@[simp] theorem grantEntry_fixed (i : RingId) (p : Nat) (s : State) : (grantEntry i p s).fixed = s.fixed := by
  unfold grantEntry; simp only []; split <;> cases i <;> first | rfl | (rw [changeRecord_fixed]; rfl)

@[simp] theorem powerSet_fixed (p : Power) (s : State) : (powerSet p s).fixed = (s.setPower p).fixed := by
  simp [powerSet]

/-! ## Light and rails -/

theorem fixed_setLight (s : State) (l : LightUnit)
    (h : (l.level, l.remembered, l.warmth, l.follow, l.tuning)
      = (s.light.level, s.light.remembered, s.light.warmth, s.light.follow, s.light.tuning))
    (h' : (l.counter, l.prescaler) = (s.light.counter, s.light.prescaler)) :
    (s.setLight l).fixed = s.fixed := by
  simp only [Prod.mk.injEq] at h h'
  simp [State.fixed, h, h']

@[simp] theorem recompute_fixed (b : Bool) (s : State) : (recompute b s).fixed = s.fixed := by
  have h : (s.setLight (recomputedLight s)).fixed = s.fixed := by
    apply fixed_setLight <;> unfold recomputedLight composeLight <;> simp only [] <;> split <;> (try split) <;> rfl
  unfold recompute; simp only []
  split <;> split <;> simp [h]

@[simp] theorem stopLight_fixed (s : State) : (stopLight s).fixed = s.fixed := rfl

@[simp] theorem railTo_fixed (r : RailState) (t : Option Time) (s : State) : (railTo r t s).fixed = s.fixed := by
  unfold railTo; simp; rfl

@[simp] theorem enterOn_fixed (s : State) : (enterOn s).fixed = s.fixed := by simp [enterOn]

@[simp] theorem enterRising_fixed (s : State) : (enterRising s).fixed = s.fixed := by
  unfold enterRising; simp only []; split <;> simp

@[simp] theorem enterOff_fixed (s : State) : (enterOff s).fixed = s.fixed := by
  unfold enterOff; simp only []; split <;> simp

@[simp] theorem enterFalling_fixed (s : State) : (enterFalling s).fixed = s.fixed := by
  unfold enterFalling; simp only []; split <;> simp

@[simp] theorem enterHold_fixed (s : State) : (enterHold s).fixed = s.fixed := by
  unfold enterHold; simp only []; split <;> simp

@[simp] theorem requestRails_fixed (s : State) : (requestRails s).fixed = s.fixed := by
  unfold requestRails; split <;> simp

@[simp] theorem releaseRails_fixed (s : State) : (releaseRails s).fixed = s.fixed := by
  unfold releaseRails; split <;> simp

@[simp] theorem requestReleaseNap_fixed (s : State) : (requestReleaseNap s).fixed = s.fixed := by
  unfold requestReleaseNap releaseFromHold; split
  · rw [enterFalling_fixed]; rfl
  · rfl

/-! ## The blocks' decisions -/

@[simp] theorem setLane_fixed (i : Fin 16) (l : Option Lane) (s : State) : (s.setLane i l).fixed = s.fixed := rfl

@[simp] theorem setQueue_fixed (q : List UpdateRecord) (s : State) :
    (s.setDrive { s.drive with queue := q }).fixed = s.fixed := rfl

@[simp] theorem enterLatch_fixed (i : Fin 16) (l : Lane) (b : Nat) (f : UpdateFlags) (s : State) :
    (enterLatch i l b f s).fixed = s.fixed := by
  unfold enterLatch; simp only [changeRecord_fixed, setLane_fixed]
  split
  · rfl
  · unfold setWaveShown; rw [changeRecord_fixed]; rfl

@[simp] theorem startLane_fixed (i : Fin 16) (u : UpdateRecord) (s : State) : (startLane i u s).fixed = s.fixed := by
  unfold startLane; simp only []
  split
  · simp [laneWithTemp]
  · split
    · simp
    · exact Eq.trans (b := State.fixed (changeRecord .display (changeRecord .laneTable (reportActivity (requestRails
        (s.setLane i (some _))))))) rfl (by simp)

@[simp] theorem startPass_fixed (todo kept : List UpdateRecord) (s : State) :
    (startPass todo kept s).fixed = s.fixed := by
  induction todo generalizing kept s with
  | nil => rfl
  | cons u rest ih =>
    unfold startPass
    split
    · rw [ih, startLane_fixed]
    · rw [ih]

@[simp] theorem startRule_fixed (s : State) : (startRule s).fixed = s.fixed := by
  unfold startRule; split <;> simp

@[simp] theorem chooseConversion_fixed (s : State) : (chooseConversion s).fixed = s.fixed := by
  unfold chooseConversion
  split
  · split
    · rfl
    · split
      · rename_i c _
        cases c <;> rfl
      · rfl
  · rfl
  · rfl

@[simp] theorem askRetention_fixed (s : State) : (askRetention s).fixed = s.fixed := by
  unfold askRetention; split <;> rfl

@[simp] theorem enterNap_fixed (s : State) : (enterNap s).fixed = s.fixed := by
  simp [enterNap]; rfl

@[simp] theorem napStep_fixed (s : State) : (napStep s).fixed = s.fixed := by
  unfold napStep; simp only []
  split
  · split <;> split <;> simp
  · rfl

@[simp] theorem changeIntake_fixed (s : State) : (changeIntake s).fixed = s.fixed := by
  unfold changeIntake; rw [changeRecord_fixed]; rfl

@[simp] theorem dropInFlight_fixed (s : State) : (dropInFlight s).fixed = s.fixed := by
  unfold dropInFlight; split <;> (try split) <;> rfl

@[simp] theorem deepIntake_fixed (s : State) : (deepIntake s).fixed = s.fixed := by
  unfold deepIntake; simp only [changeIntake_fixed]
  exact dropInFlight_fixed s

@[simp] theorem emptyTurns_fixed (s : State) : (emptyTurns s).fixed = s.fixed := by
  unfold emptyTurns changeSlots; split
  · rfl
  · rw [changeRecord_fixed]; rfl

@[simp] theorem stopInput_fixed (s : State) : (stopInput s).fixed = s.fixed := rfl
@[simp] theorem stopSampler_fixed (s : State) : (stopSampler s).fixed = s.fixed := rfl

@[simp] theorem enterDeep_fixed (s : State) : (enterDeep s).fixed = s.fixed := by
  unfold enterDeep; simp only [recompute_fixed, stopLight_fixed, askRetention_fixed, emptyTurns_fixed,
    deepIntake_fixed, stopInput_fixed, stopSampler_fixed]
  exact (powerSet_fixed _ s)

@[simp] theorem drainStep_fixed (s : State) : (drainStep s).fixed = s.fixed := by
  unfold drainStep; split <;> simp

@[simp] theorem examineHolds_fixed (s : State) : (examineHolds s).fixed = s.fixed := by
  unfold examineHolds; split <;> rfl

@[simp] theorem placeClaims_fixed (s : State) : (placeClaims s).fixed = s.fixed := rfl

/-- `settle` leaves the fixed values alone while no RESTART waits. -/
theorem settle_fixed (s : State) (h : s.power.restarting = false) : (settle s).fixed = s.fixed := by
  simp [settle, restartStep, h]

/-! ## The arbiter's grant -/

@[simp] theorem reply_fixed (x : Reply) (s : State) : (reply x s).fixed = s.fixed := by
  unfold reply; split
  · rfl
  · exact Eq.trans (b := State.fixed (produce .reply _ _ s)) rfl (produce_fixed .reply (Or.inr rfl) _ _ s)

@[simp] theorem loadPage_fixed (t : TableId) (page : List Byte) (s : State) :
    (loadPage t page s).1.fixed = s.fixed := by
  cases t <;> unfold loadPage <;> simp only []
  · unfold loadLevels; simp only [recompute_fixed]; rfl
  · unfold loadKeymap; split <;> rfl
  · unfold loadThermistor; simp only []; split
    · simp only [changeSamples, changeRecord_fixed]; rfl
    · rfl
  · unfold loadWatches; split
    · simp only [changeRecord_fixed]; rfl
    · rfl

@[simp] theorem startBurst_fixed (k : BurstKind) (w : List Host.Cell) (s : State) :
    (startBurst k w s).fixed = s.fixed := rfl

@[simp] theorem endInit_fixed (s : State) : (endInit s).fixed = s.fixed := by
  unfold endInit; simp; rfl

@[simp] theorem writeGranted_fixed (r : RecordId) (s : State) : (writeGranted r s).fixed = s.fixed := by
  unfold writeGranted; simp only []
  cases r <;> simp only [] <;> split <;> (try split) <;> simp

@[simp] theorem grantRecord_fixed (s : State) : (grantRecord s).fixed = s.fixed := by
  unfold grantRecord; split
  · rfl
  · simp
  · simp [tableReadGranted]

@[simp] theorem grantLatch_fixed (i : Fin 16) (s : State) : (grantLatch i s).fixed = s.fixed := by
  unfold grantLatch; simp only []
  split
  · rfl
  · split
    · rfl
    · rfl
    · split <;> simp <;> rfl

theorem fixed_setSlotAt (n : Fin 4) (x : Slot) (s : State) (h : x.shape = (s.slotAt n).shape) :
    (s.setSlotAt n x).fixed = s.fixed := by
  have e : ∀ k : Fin 4, (s.slot.slots.set n x)[k].shape = s.slot.slots[k].shape := by
    intro k
    rw [Fin.getElem_fin, Vector.getElem_set]
    split
    · rename_i e; rw [h]; unfold State.slotAt; simp [← e]
    · rfl
  have e0 : (s.slot.slots.set n x)[0].shape = s.slot.slots[0].shape := e 0
  have e1 : (s.slot.slots.set n x)[1].shape = s.slot.slots[1].shape := e 1
  have e2 : (s.slot.slots.set n x)[2].shape = s.slot.slots[2].shape := e 2
  have e3 : (s.slot.slots.set n x)[3].shape = s.slot.slots[3].shape := e 3
  simp only [State.fixed, State.setSlotAt, State.setSlot, e0, e1, e2, e3]

@[simp] theorem changeSource_fixed (n : Fin 4) (up : Bool) (s : State) : (changeSource n up s).fixed = s.fixed := by
  unfold changeSource; simp only [changeRecord_fixed]
  exact fixed_setSlotAt n _ s rfl

theorem foldl_fixed {α : Type} (f : State → α → State) (h : ∀ s a, (f s a).fixed = s.fixed) (l : List α) (s : State) :
    (l.foldl f s).fixed = s.fixed := by
  induction l generalizing s with
  | nil => rfl
  | cons a rest ih => rw [List.foldl_cons, ih, h]

@[simp] theorem endRecord_fixed (o : UpdateOutcome) (s : State) (u : UpdateRecord) :
    (endRecord o s u).fixed = s.fixed := by
  unfold endRecord
  rw [foldl_fixed _ (fun s tag => produce_fixed .display (Or.inl rfl) _ tag s), changeSource_fixed]

@[simp] theorem completeLane_fixed (i : Fin 16) (l : Lane) (s : State) : (completeLane i l s).fixed = s.fixed := by
  unfold completeLane; simp only [releaseRails_fixed, endRecord_fixed]
  split
  · rw [changeRecord_fixed]
    exact Eq.trans (b := State.fixed (reportActivity (changeRecord .laneTable (s.setLane i none)))) rfl (by simp)
  · simp

@[simp] theorem grantFrame_fixed (i : Fin 16) (s : State) : (grantFrame i s).fixed = s.fixed := by
  unfold grantFrame; simp only []
  split
  · rfl
  · split
    · split
      · simp; rfl
      · rfl
    · rfl

@[simp] theorem grant_fixed (c : Nat) (s : State) : (grant c s).fixed = s.fixed := by
  unfold grant; split
  · unfold grantHigh; split <;> simp
  · rfl
  · rfl
  · unfold grantLink; split <;> rfl
  · unfold grantLow; split
    · rfl
    · split <;> simp
  · simp
  · rfl

@[simp] theorem decideStep_fixed (s : State) : (decideStep s).fixed = s.fixed := by
  unfold decideStep; split
  · split <;> simp
  · rfl

/-- What ends every command leaves the fixed values alone while no RESTART waits. -/
theorem finish_fixed (s : State) (h : s.power.restarting = false) : (finish s).fixed = s.fixed := by
  have e : ∀ t : State, t.fixed.restarting = t.power.restarting := fun _ => rfl
  have h1 : (decideStep (settle s)).fixed = s.fixed := by rw [decideStep_fixed, settle_fixed s h]
  have h2 : (decideStep (settle s)).power.restarting = false := by rw [← e, h1, e, h]
  unfold finish; rw [settle_fixed _ h2, h1]

end Sys2Proof.Machine
end

