-- ==== Sys2Proof/Laws/Answered.lean ====
section
/-! SUPPORT. A reply stands: once the request unit is IDLE, the end of a command leaves the FIFO, the unit and what the
REPLY ring holds alone (R20, R22) while no RESTART waits; `finish_answered` says so once. -/

namespace Sys2Proof.Machine

/-- The request unit and what the REPLY ring holds. -/
def State.answered (s : State) : RequestUnit × Word16 × List Entry := (s.request, s.report.rings.reply.placed)

/-! ## Setters -/

@[simp] theorem answered_setPort (s : State) (x : Port) : (s.setPort x).answered = s.answered := rfl

/-! ## Records, activity, rings -/

@[simp] theorem changeRecord_answered (r : RecordId) (s : State) : (changeRecord r s).answered = s.answered := by
  unfold changeRecord; split <;> rfl

@[simp] theorem reportActivity_answered (s : State) : (reportActivity s).answered = s.answered := by
  unfold reportActivity Power.activity Power.startTimers
  cases h : s.power.timersRun <;> simp [Power.timersRun] at * <;> rfl

@[simp] theorem changePower_answered (s : State) : (changePower s).answered = s.answered := by
  unfold changePower; rw [changeRecord_answered]; rfl

@[simp] theorem changeLight_answered (s : State) : (changeLight s).answered = s.answered := by
  unfold changeLight; rw [changeRecord_answered]; rfl

@[simp] theorem recomputeNotice_answered (s : State) : (recomputeNotice s).answered = s.answered := by
  unfold recomputeNotice; simp only []; split
  · rfl
  · rw [changeRecord_answered]; rfl

/-- Every ring but REPLY is another ring. -/
theorem produce_answered (i : RingId) (h : i ≠ .reply) (b : EntryBody) (tag : Nat) (s : State) :
    (produce i b tag s).answered = s.answered := by
  unfold produce; simp only [recomputeNotice_answered, changeRecord_answered]
  cases i <;> first | rfl | exact absurd rfl h

@[simp] theorem grantEntry_answered (i : RingId) (p : Nat) (s : State) : (grantEntry i p s).answered = s.answered := by
  unfold grantEntry; simp only []; split <;> cases i <;> first | rfl | (rw [changeRecord_answered]; rfl)

@[simp] theorem powerSet_answered (p : Power) (s : State) : (powerSet p s).answered = (s.setPower p).answered := by
  simp [powerSet]

/-! ## Light and rails -/

@[simp] theorem answered_setLight (s : State) (l : LightUnit) : (s.setLight l).answered = s.answered := rfl

@[simp] theorem recompute_answered (b : Bool) (s : State) : (recompute b s).answered = s.answered := by
  unfold recompute; simp only []
  split <;> split <;> simp

@[simp] theorem stopLight_answered (s : State) : (stopLight s).answered = s.answered := rfl

@[simp] theorem railTo_answered (r : RailState) (t : Option Time) (s : State) : (railTo r t s).answered = s.answered := by
  unfold railTo; simp; rfl

@[simp] theorem enterOn_answered (s : State) : (enterOn s).answered = s.answered := by simp [enterOn]

@[simp] theorem enterRising_answered (s : State) : (enterRising s).answered = s.answered := by
  unfold enterRising; simp only []; split <;> simp

@[simp] theorem enterOff_answered (s : State) : (enterOff s).answered = s.answered := by
  unfold enterOff; simp only []; split <;> simp

@[simp] theorem enterFalling_answered (s : State) : (enterFalling s).answered = s.answered := by
  unfold enterFalling; simp only []; split <;> simp

@[simp] theorem enterHold_answered (s : State) : (enterHold s).answered = s.answered := by
  unfold enterHold; simp only []; split <;> simp

@[simp] theorem requestRails_answered (s : State) : (requestRails s).answered = s.answered := by
  unfold requestRails; split <;> simp

@[simp] theorem releaseRails_answered (s : State) : (releaseRails s).answered = s.answered := by
  unfold releaseRails; split <;> simp

@[simp] theorem requestReleaseNap_answered (s : State) : (requestReleaseNap s).answered = s.answered := by
  unfold requestReleaseNap releaseFromHold; split
  · rw [enterFalling_answered]; rfl
  · rfl

/-! ## The blocks' decisions -/

@[simp] theorem setLane_answered (i : Fin 16) (l : Option Lane) (s : State) : (s.setLane i l).answered = s.answered := rfl

@[simp] theorem setQueue_answered (q : List UpdateRecord) (s : State) :
    (s.setDrive { s.drive with queue := q }).answered = s.answered := rfl

@[simp] theorem enterLatch_answered (i : Fin 16) (l : Lane) (b : Nat) (f : UpdateFlags) (s : State) :
    (enterLatch i l b f s).answered = s.answered := by
  unfold enterLatch; simp only [changeRecord_answered, setLane_answered]
  split
  · rfl
  · unfold setWaveShown; rw [changeRecord_answered]; rfl

@[simp] theorem startLane_answered (i : Fin 16) (u : UpdateRecord) (s : State) : (startLane i u s).answered = s.answered := by
  unfold startLane; simp only []
  split
  · simp [laneWithTemp]
  · split
    · simp
    · exact Eq.trans (b := State.answered (changeRecord .display (changeRecord .laneTable (reportActivity (requestRails
        (s.setLane i (some _))))))) rfl (by simp)

@[simp] theorem startPass_answered (todo kept : List UpdateRecord) (s : State) :
    (startPass todo kept s).answered = s.answered := by
  induction todo generalizing kept s with
  | nil => rfl
  | cons u rest ih =>
    unfold startPass
    split
    · rw [ih, startLane_answered]
    · rw [ih]

@[simp] theorem startRule_answered (s : State) : (startRule s).answered = s.answered := by
  unfold startRule; split <;> simp

@[simp] theorem chooseConversion_answered (s : State) : (chooseConversion s).answered = s.answered := by
  unfold chooseConversion
  split
  · split
    · rfl
    · split
      · rename_i c _
        cases c <;> rfl
      · rfl
  · rfl
  · rfl

@[simp] theorem askRetention_answered (s : State) : (askRetention s).answered = s.answered := by
  unfold askRetention; split <;> rfl

@[simp] theorem enterNap_answered (s : State) : (enterNap s).answered = s.answered := by
  simp [enterNap]; rfl

@[simp] theorem napStep_answered (s : State) : (napStep s).answered = s.answered := by
  unfold napStep; simp only []
  split
  · split <;> split <;> simp
  · rfl

@[simp] theorem changeIntake_answered (s : State) : (changeIntake s).answered = s.answered := by
  unfold changeIntake; rw [changeRecord_answered]; rfl

@[simp] theorem dropInFlight_answered (s : State) : (dropInFlight s).answered = s.answered := by
  unfold dropInFlight; split <;> (try split) <;> rfl

@[simp] theorem deepIntake_answered (s : State) : (deepIntake s).answered = s.answered := by
  unfold deepIntake; simp only [changeIntake_answered]
  exact dropInFlight_answered s

@[simp] theorem emptyTurns_answered (s : State) : (emptyTurns s).answered = s.answered := by
  unfold emptyTurns changeSlots; split
  · rfl
  · rw [changeRecord_answered]; rfl

@[simp] theorem stopInput_answered (s : State) : (stopInput s).answered = s.answered := rfl
@[simp] theorem stopSampler_answered (s : State) : (stopSampler s).answered = s.answered := rfl

@[simp] theorem enterDeep_answered (s : State) : (enterDeep s).answered = s.answered := by
  unfold enterDeep; simp only [recompute_answered, stopLight_answered, askRetention_answered, emptyTurns_answered,
    deepIntake_answered, stopInput_answered, stopSampler_answered]
  exact (powerSet_answered _ s)

@[simp] theorem drainStep_answered (s : State) : (drainStep s).answered = s.answered := by
  unfold drainStep; split <;> simp

@[simp] theorem examineHolds_answered (s : State) : (examineHolds s).answered = s.answered := by
  unfold examineHolds; split <;> rfl

@[simp] theorem placeClaims_answered (s : State) : (placeClaims s).answered = s.answered := rfl

/-! ## The arbiter's grant -/

@[simp] theorem loadPage_answered (t : TableId) (page : List Byte) (s : State) :
    (loadPage t page s).1.answered = s.answered := by
  cases t <;> unfold loadPage <;> simp only []
  · unfold loadLevels; simp only [recompute_answered]; rfl
  · unfold loadKeymap; split <;> rfl
  · unfold loadThermistor; simp only []; split
    · simp only [changeSamples, changeRecord_answered]; rfl
    · rfl
  · unfold loadWatches; split
    · simp only [changeRecord_answered]; rfl
    · rfl

@[simp] theorem startBurst_answered (k : BurstKind) (w : List Host.Cell) (s : State) :
    (startBurst k w s).answered = s.answered := rfl

@[simp] theorem grantLatch_answered (i : Fin 16) (s : State) : (grantLatch i s).answered = s.answered := by
  unfold grantLatch; simp only []
  split
  · rfl
  · split
    · rfl
    · rfl
    · split <;> simp <;> rfl

@[simp] theorem changeSource_answered (n : Fin 4) (up : Bool) (s : State) :
    (changeSource n up s).answered = s.answered := by
  unfold changeSource; simp only [changeRecord_answered]; rfl

theorem foldl_answered {α : Type} (f : State → α → State) (h : ∀ s a, (f s a).answered = s.answered) (l : List α) (s : State) :
    (l.foldl f s).answered = s.answered := by
  induction l generalizing s with
  | nil => rfl
  | cons a rest ih => rw [List.foldl_cons, ih, h]

@[simp] theorem endRecord_answered (o : UpdateOutcome) (s : State) (u : UpdateRecord) :
    (endRecord o s u).answered = s.answered := by
  unfold endRecord
  rw [foldl_answered _ (fun s tag => produce_answered .display (by decide) _ tag s), changeSource_answered]

@[simp] theorem completeLane_answered (i : Fin 16) (l : Lane) (s : State) : (completeLane i l s).answered = s.answered := by
  unfold completeLane; simp only [releaseRails_answered, endRecord_answered]
  split
  · rw [changeRecord_answered]
    exact Eq.trans (b := State.answered (reportActivity (changeRecord .laneTable (s.setLane i none)))) rfl (by simp)
  · simp

@[simp] theorem grantFrame_answered (i : Fin 16) (s : State) : (grantFrame i s).answered = s.answered := by
  unfold grantFrame; simp only []
  split
  · rfl
  · split
    · split
      · simp; rfl
      · rfl
    · rfl

/-! ## The end of a command -/

theorem settle_answered (s : State) (h : s.power.restarting = false) : (settle s).answered = s.answered := by
  simp [settle, restartStep, h]

/-- A reply by an IDLE unit is no reply. -/
theorem reply_idle (x : Reply) (s : State) (h : s.request.inHand = none) : reply x s = s := by
  unfold reply; rw [h]

theorem idle_of_answered {s t : State} (e : t.answered = s.answered) (h : s.request.inHand = none) :
    t.request.inHand = none := by
  have e1 : t.request = s.request := congrArg Prod.fst e
  rw [e1, h]

theorem endInit_answered (s : State) (h : s.request.inHand = none) : (endInit s).answered = s.answered := by
  unfold endInit; rw [reply_idle _ _ (idle_of_answered (powerSet_answered _ s) (by exact h))]
  exact powerSet_answered _ s

theorem writeGranted_answered (r : RecordId) (s : State) (h : s.request.inHand = none) :
    (writeGranted r s).answered = s.answered := by
  have e : ∀ t : State, t.answered = s.answered →
      (if t.power.state = .init then
        (let s2 := t.setPort { t.port with initLeft := t.port.initLeft - 1 }
         if s2.port.initLeft = 0 then endInit s2 else s2) else t).answered = s.answered := by
    intro t ht
    split
    · simp only []; split
      · rw [endInit_answered _ (by exact idle_of_answered ht h)]; exact ht
      · exact ht
    · exact ht
  unfold writeGranted; simp only []
  cases r <;> exact e _ (by simp)

theorem grant_answered (c : Nat) (s : State) (h : s.request.inHand = none) : (grant c s).answered = s.answered := by
  unfold grant; split
  · unfold grantHigh; split <;> simp
  · rfl
  · rfl
  · unfold grantLink; split <;> rfl
  · unfold grantLow; split
    · rfl
    · split <;> simp
  · unfold grantRecord; split
    · rfl
    · rw [writeGranted_answered _ _ (by exact h)]; rfl
    · rename_i t _ _
      unfold tableReadGranted; simp only []
      rw [reply_idle _ _ (idle_of_answered (loadPage_answered _ _ _) (by exact h))]; simp
  · rfl

/-- What ends every command leaves an IDLE request unit and its replies alone. -/
theorem finish_answered (s : State) (h : s.power.restarting = false) (h' : s.request.inHand = none) :
    (finish s).answered = s.answered := by
  have r : ∀ t : State, t.fixed = s.fixed → t.power.restarting = false := by
    intro t ht
    have : t.power.restarting = s.power.restarting := congrArg Fixed.restarting ht
    rw [this, h]
  have e1 := settle_answered s h
  have e2 : (decideStep (settle s)).answered = s.answered := by
    unfold decideStep; split
    · split
      · rw [grant_answered _ _ (by exact idle_of_answered e1 h')]; exact e1
      · exact e1
    · exact e1
  unfold finish
  rw [settle_answered _ (r _ (by rw [decideStep_fixed, settle_fixed s h])), e2]

end Sys2Proof.Machine
end

