-- ==== Sys2Proof/Laws/Steady.lean ====
section
/-! SUPPORT. What the end of a command leaves alone in a steady state, besides `State.fixed`: the values of
`State.steady`; `finish_steady` says so once. -/

namespace Sys2Proof.Machine

/-! ## Setters -/

@[simp] theorem steady_setPort (s : State) (x : Port) (h : x.retention = s.port.retention) :
    (s.setPort x).steady = s.steady := by simp [State.steady, h]

/-! ## Records, activity, rings -/

@[simp] theorem changeRecord_steady (r : RecordId) (s : State) : (changeRecord r s).steady = s.steady := by
  unfold changeRecord; split <;> rfl

@[simp] theorem reportActivity_steady (s : State) : (reportActivity s).steady = s.steady := by
  unfold reportActivity Power.activity Power.startTimers
  cases h : s.power.timersRun <;> simp [Power.timersRun] at * <;> rfl

@[simp] theorem changePower_steady (s : State) : (changePower s).steady = s.steady := by
  unfold changePower; rw [changeRecord_steady]; rfl

@[simp] theorem changeLight_steady (s : State) : (changeLight s).steady = s.steady := by
  unfold changeLight; rw [changeRecord_steady]; rfl

@[simp] theorem recomputeNotice_steady (s : State) : (recomputeNotice s).steady = s.steady := by
  unfold recomputeNotice; simp only []; split
  · rfl
  · rw [changeRecord_steady]; rfl

/-- The rings whose entries the end of a command may produce: UPDATE-END and REPLY (R86, R182, R25). -/
theorem produce_steady (i : RingId) (h : i = .display ∨ i = .reply) (b : EntryBody) (tag : Nat) (s : State) :
    (produce i b tag s).steady = s.steady := by
  unfold produce; simp only [recomputeNotice_steady, changeRecord_steady]
  rcases h with rfl | rfl <;> simp only [placeEntry] <;> split <;> rfl

@[simp] theorem grantEntry_steady (i : RingId) (p : Nat) (s : State) : (grantEntry i p s).steady = s.steady := by
  unfold grantEntry; simp only []; split <;> cases i <;> first | rfl | (rw [changeRecord_steady]; rfl)

@[simp] theorem powerSet_steady (p : Power) (s : State) : (powerSet p s).steady = (s.setPower p).steady := by
  simp [powerSet]

/-! ## Light and rails -/

theorem steady_setLight (s : State) (l : LightUnit)
    (h : (l.level, l.remembered, l.warmth, l.follow, l.tuning)
      = (s.light.level, s.light.remembered, s.light.warmth, s.light.follow, s.light.tuning))
    (h' : (l.counter, l.prescaler) = (s.light.counter, s.light.prescaler))
    (h'' : (l.coolFrame, l.warmFrame, l.running) = (s.light.coolFrame, s.light.warmFrame, s.light.running)) :
    (s.setLight l).steady = s.steady := by
  have e := fixed_setLight s l h h'
  simp only [Prod.mk.injEq] at h''
  simp [State.steady, h'', e]

@[simp] theorem recompute_steady (b : Bool) (s : State) : (recompute b s).steady = s.steady := by
  have h : (s.setLight (recomputedLight s)).steady = s.steady := by
    apply steady_setLight <;> unfold recomputedLight composeLight <;> simp only [] <;> split <;> (try split) <;> rfl
  unfold recompute; simp only []
  split <;> split <;> simp [h]

@[simp] theorem railTo_steady (r : RailState) (t : Option Time) (s : State) : (railTo r t s).steady = s.steady := by
  unfold railTo; simp; rfl

@[simp] theorem enterOn_steady (s : State) : (enterOn s).steady = s.steady := by simp [enterOn]

@[simp] theorem enterRising_steady (s : State) : (enterRising s).steady = s.steady := by
  unfold enterRising; simp only []; split <;> simp

@[simp] theorem enterOff_steady (s : State) : (enterOff s).steady = s.steady := by
  unfold enterOff; simp only []; split <;> simp

@[simp] theorem enterFalling_steady (s : State) : (enterFalling s).steady = s.steady := by
  unfold enterFalling; simp only []; split <;> simp

@[simp] theorem enterHold_steady (s : State) : (enterHold s).steady = s.steady := by
  unfold enterHold; simp only []; split <;> simp

@[simp] theorem requestRails_steady (s : State) : (requestRails s).steady = s.steady := by
  unfold requestRails; split <;> simp

@[simp] theorem releaseRails_steady (s : State) : (releaseRails s).steady = s.steady := by
  unfold releaseRails; split <;> simp

/-! ## The blocks' decisions -/

@[simp] theorem setLane_steady (i : Fin 16) (l : Option Lane) (s : State) : (s.setLane i l).steady = s.steady := rfl

@[simp] theorem setQueue_steady (q : List UpdateRecord) (s : State) :
    (s.setDrive { s.drive with queue := q }).steady = s.steady := rfl

@[simp] theorem enterLatch_steady (i : Fin 16) (l : Lane) (b : Nat) (f : UpdateFlags) (s : State) :
    (enterLatch i l b f s).steady = s.steady := by
  unfold enterLatch; simp only [changeRecord_steady, setLane_steady]
  split
  · rfl
  · unfold setWaveShown; rw [changeRecord_steady]; rfl

@[simp] theorem startLane_steady (i : Fin 16) (u : UpdateRecord) (s : State) : (startLane i u s).steady = s.steady := by
  unfold startLane; simp only []
  split
  · simp [laneWithTemp]
  · split
    · simp
    · exact Eq.trans (b := State.steady (changeRecord .display (changeRecord .laneTable (reportActivity (requestRails
        (s.setLane i (some _))))))) rfl (by simp)

@[simp] theorem startPass_steady (todo kept : List UpdateRecord) (s : State) :
    (startPass todo kept s).steady = s.steady := by
  induction todo generalizing kept s with
  | nil => rfl
  | cons u rest ih =>
    unfold startPass
    split
    · rw [ih, startLane_steady]
    · rw [ih]

@[simp] theorem startRule_steady (s : State) : (startRule s).steady = s.steady := by
  unfold startRule; split <;> simp

@[simp] theorem chooseConversion_steady (s : State) : (chooseConversion s).steady = s.steady := by
  unfold chooseConversion
  split
  · split
    · rfl
    · split
      · rename_i c _
        cases c <;> rfl
      · rfl
  · rfl
  · rfl

@[simp] theorem examineHolds_steady (s : State) : (examineHolds s).steady = s.steady := by
  unfold examineHolds; split <;> rfl

@[simp] theorem placeClaims_steady (s : State) : (placeClaims s).steady = s.steady := rfl

/-! ## The arbiter's grant -/

@[simp] theorem reply_steady (x : Reply) (s : State) : (reply x s).steady = s.steady := by
  unfold reply; split
  · rfl
  · exact Eq.trans (b := State.steady (produce .reply _ _ s)) rfl (produce_steady .reply (Or.inr rfl) _ _ s)

@[simp] theorem loadPage_steady (t : TableId) (page : List Byte) (s : State) :
    (loadPage t page s).1.steady = s.steady := by
  cases t <;> unfold loadPage <;> simp only []
  · unfold loadLevels; simp only [recompute_steady]; rfl
  · unfold loadKeymap; split <;> rfl
  · unfold loadThermistor; simp only []; split
    · simp only [changeSamples, changeRecord_steady]; rfl
    · rfl
  · unfold loadWatches; split
    · simp only [changeRecord_steady]; rfl
    · rfl

@[simp] theorem startBurst_steady (k : BurstKind) (w : List Host.Cell) (s : State) :
    (startBurst k w s).steady = s.steady := rfl

@[simp] theorem grantLatch_steady (i : Fin 16) (s : State) : (grantLatch i s).steady = s.steady := by
  unfold grantLatch; simp only []
  split
  · rfl
  · split
    · rfl
    · rfl
    · split <;> simp <;> rfl

theorem steady_setSlotAt (n : Fin 4) (x : Slot) (s : State) (h : x.shape = (s.slotAt n).shape) :
    (s.setSlotAt n x).steady = s.steady := by
  have e := fixed_setSlotAt n x s h
  simp only [State.steady, e]; rfl

@[simp] theorem changeSource_steady (n : Fin 4) (up : Bool) (s : State) : (changeSource n up s).steady = s.steady := by
  unfold changeSource; simp only [changeRecord_steady]
  exact steady_setSlotAt n _ s rfl

theorem foldl_steady {α : Type} (f : State → α → State) (h : ∀ s a, (f s a).steady = s.steady) (l : List α) (s : State) :
    (l.foldl f s).steady = s.steady := by
  induction l generalizing s with
  | nil => rfl
  | cons a rest ih => rw [List.foldl_cons, ih, h]

@[simp] theorem endRecord_steady (o : UpdateOutcome) (s : State) (u : UpdateRecord) :
    (endRecord o s u).steady = s.steady := by
  unfold endRecord
  rw [foldl_steady _ (fun s tag => produce_steady .display (Or.inl rfl) _ tag s), changeSource_steady]

@[simp] theorem completeLane_steady (i : Fin 16) (l : Lane) (s : State) : (completeLane i l s).steady = s.steady := by
  unfold completeLane; simp only [releaseRails_steady, endRecord_steady]
  split
  · rw [changeRecord_steady]
    exact Eq.trans (b := State.steady (reportActivity (changeRecord .laneTable (s.setLane i none)))) rfl (by simp)
  · simp

@[simp] theorem grantFrame_steady (i : Fin 16) (s : State) : (grantFrame i s).steady = s.steady := by
  unfold grantFrame; simp only []
  split
  · rfl
  · split
    · split
      · simp; rfl
      · rfl
    · rfl

/-! ## The end of a command -/

theorem Steady.of_steady {s t : State} (e : t.steady = s.steady) (h : Steady s) : Steady t := by
  have e1 : t.power.state = s.power.state := congrArg SteadyView.state e
  have e2 : t.power.restarting = s.power.restarting := congrArg (fun v => v.fixed.restarting) e
  unfold Steady; rw [e1, e2]; exact h

theorem settle_steady (s : State) (h : Steady s) : (settle s).steady = s.steady := by
  have h1 : (chooseConversion (startRule s)).steady = s.steady := by simp
  obtain ⟨hi, hd, hr, hw⟩ := Steady.of_steady h1 h
  have h4 := h.2.2.2
  have e : settle s = placeClaims (examineHolds (chooseConversion (startRule s))) := by
    simp only [settle, restartStep, h4, napStep, drainStep]
    simp [hd, hr]
  rw [e]; simp

theorem decideStep_steady (s : State) (h : s.power.state ≠ .init) : (decideStep s).steady = s.steady := by
  have w : ∀ (r : RecordId) (t : State), t.power.state ≠ .init → (writeGranted r t).steady = t.steady := by
    intro r t ht
    have e : ∀ u : State, u.steady = t.steady → u.power.state ≠ .init := by
      intro u hu
      have : u.power.state = t.power.state := congrArg SteadyView.state hu
      rw [this]; exact ht
    unfold writeGranted; simp only []
    cases r <;> simp only [] <;> (split; · exact absurd (by assumption) (e _ (by simp))) <;> simp
  unfold decideStep; split
  · split
    · rename_i c n _
      have e : (grant c (s.setPort { s.port with starvation := n })).steady
          = (s.setPort { s.port with starvation := n }).steady := by
        unfold grant; split
        · unfold grantHigh; split <;> simp
        · rfl
        · rfl
        · unfold grantLink; split <;> rfl
        · unfold grantLow; split
          · rfl
          · split <;> simp
        · unfold grantRecord; split
          · rfl
          · rw [w]
            · rfl
            · exact h
          · simp only [tableReadGranted, reply_steady, loadPage_steady]; rfl
        · rfl
      rw [e]; rfl
    · rfl
  · rfl

/-- What ends every command leaves the steady values alone in a steady state. -/
theorem finish_steady (s : State) (h : Steady s) : (finish s).steady = s.steady := by
  have e := settle_steady s h
  have h1 := Steady.of_steady e h
  have e1 : (decideStep (settle s)).steady = s.steady := by rw [decideStep_steady _ h1.1, e]
  unfold finish; rw [settle_steady _ (Steady.of_steady e1 h), e1]

end Sys2Proof.Machine
end

