-- ==== Sys2Proof/Laws/Calm.lean ====
section
/-! SUPPORT. What the end of a command leaves alone in a calm state: everything but the converter's choice, the
examination of a hold and the drive engine's claims; `finish_calm` says so once. -/

namespace Sys2Proof.Machine

@[simp] theorem placeClaims_calm (s : State) : (placeClaims s).calm = s.calm := rfl

@[simp] theorem examineHolds_calm (s : State) : (examineHolds s).calm = s.calm := by
  unfold examineHolds; split <;> rfl

@[simp] theorem chooseConversion_calm (s : State) : (chooseConversion s).calm = s.calm := by
  unfold chooseConversion
  split
  · split
    · rfl
    · split
      · rename_i c _
        cases c <;> rfl
      · rfl
  · rfl
  · rfl

theorem Calm.of_calm {s t : State} (e : t.calm = s.calm) (h : Calm s) : Calm t := by
  have e1 : t.power = s.power := show t.calm.power = s.calm.power by rw [e]
  have e2 : t.port = s.port := show t.calm.port = s.calm.port by rw [e]
  have e3 : t.drive.queue = s.drive.queue := show t.calm.drive.queue = s.calm.drive.queue by rw [e]
  unfold Calm Steady; rw [e1, e2, e3]; exact h

theorem settle_calm (s : State) (h : Calm s) : (settle s).calm = s.calm := by
  have h1 : (chooseConversion s).calm = s.calm := by simp
  obtain ⟨⟨_, hd, hr, _⟩, _, _⟩ := Calm.of_calm h1 h
  obtain ⟨⟨_, _, _, h4⟩, _, hq⟩ := h
  have e : settle s = placeClaims (examineHolds (chooseConversion s)) := by
    have e0 : startRule s = s := by simp [startRule, hq]
    simp only [settle, restartStep, h4, Bool.false_eq_true, false_and, if_false, e0, napStep, drainStep, hd, hr]
  rw [e]; simp

/-- What ends every command leaves the calm view alone in a calm state. -/
theorem finish_calm (s : State) (h : Calm s) : (finish s).calm = s.calm := by
  have e := settle_calm s h
  have h1 := Calm.of_calm e h
  have e1 : decideStep (settle s) = settle s := by
    have : (settle s).port.burst.isNone = false := by
      have := h1.2.1
      revert this
      cases (settle s).port.burst <;> simp
    simp [decideStep, portDecides, this]
  unfold finish; rw [e1, settle_calm _ h1, e]

end Sys2Proof.Machine
end

