-- ==== Sys2Proof/Laws/Memory.lean ====
section
/-! SUPPORT. Memory (R1, R2): the canonical form of sparse tables and of memory, which every memory operation keeps; a
byte read after it was written is the byte written, and every other byte stands. -/

namespace Sys2Proof.Machine

/-! ## Sparse tables -/

section

variable {α : Type} [DecidableEq α] (d : α)

theorem sparseWfFrom_mono {lo lo' : Nat} (t : List (Nat × α)) (h : lo' ≤ lo) (w : sparseWfFrom d lo t = true) :
    sparseWfFrom d lo' t = true := by
  cases t with
  | nil => rfl
  | cons c rest =>
    simp only [sparseWfFrom, Bool.and_eq_true, decide_eq_true_eq] at w ⊢
    exact ⟨⟨by omega, w.1.2⟩, w.2⟩

/-- A write keeps the canonical form. -/
theorem sparseSet_wfFrom (lo a : Nat) (v : α) (t : List (Nat × α)) (h : lo ≤ a) (w : sparseWfFrom d lo t = true) :
    sparseWfFrom d lo (sparseSet d t a v) = true := by
  induction t generalizing lo with
  | nil =>
    simp only [sparseSet]
    split <;> simp_all [sparseWfFrom]
  | cons c rest ih =>
    obtain ⟨k, x⟩ := c
    simp only [sparseWfFrom, Bool.and_eq_true, decide_eq_true_eq] at w
    obtain ⟨⟨hk, hx⟩, hr⟩ := w
    simp only [sparseSet]
    split
    · split
      · simp_all [sparseWfFrom]
      · simp only [sparseWfFrom, Bool.and_eq_true, decide_eq_true_eq]
        exact ⟨⟨h, by simp_all⟩, ⟨by omega, hx⟩, hr⟩
    · split
      · split
        · exact sparseWfFrom_mono d rest (by omega) hr
        · simp only [sparseWfFrom, Bool.and_eq_true, decide_eq_true_eq]
          exact ⟨⟨h, by simp_all⟩, by subst a; exact hr⟩
      · simp only [sparseWfFrom, Bool.and_eq_true, decide_eq_true_eq]
        exact ⟨⟨hk, hx⟩, ih (k + 1) (by omega) hr⟩

theorem sparseSet_wf (a : Nat) (v : α) (t : List (Nat × α)) (w : sparseWf d t = true) :
    sparseWf d (sparseSet d t a v) = true := sparseSet_wfFrom d 0 a v t (Nat.zero_le a) w

/-- A place below the bound holds the value that an unlisted place holds. -/
theorem sparseGet_below (lo a : Nat) (t : List (Nat × α)) (h : a < lo) (w : sparseWfFrom d lo t = true) :
    sparseGet d t a = d := by
  cases t with
  | nil => rfl
  | cons c rest =>
    obtain ⟨k, x⟩ := c
    simp only [sparseWfFrom, Bool.and_eq_true, decide_eq_true_eq] at w
    simp only [sparseGet]
    rw [if_neg (by omega), if_pos (by omega)]

/-- Reading after a write, in a table in canonical form. -/
theorem sparseGet_sparseSet (lo a b : Nat) (v : α) (t : List (Nat × α)) (w : sparseWfFrom d lo t = true) :
    sparseGet d (sparseSet d t a v) b = if b = a then v else sparseGet d t b := by
  induction t generalizing lo with
  | nil =>
    simp only [sparseSet]
    split
    · simp_all [sparseGet]
    · simp only [sparseGet]
      by_cases hb : b = a
      · rw [if_pos hb.symm, if_pos hb]
      · rw [if_neg (Ne.symm hb), if_neg hb]; split <;> rfl
  | cons c rest ih =>
    obtain ⟨k, x⟩ := c
    simp only [sparseWfFrom, Bool.and_eq_true, decide_eq_true_eq] at w
    obtain ⟨⟨hk, hx⟩, hr⟩ := w
    simp only [sparseSet]
    by_cases h1 : a < k
    · rw [if_pos h1]
      by_cases hv : v = d
      · rw [if_pos hv]
        by_cases hb : b = a
        · rw [if_pos hb]; simp only [sparseGet]; rw [if_neg (by omega), if_pos (by omega), hv]
        · rw [if_neg hb]
      · rw [if_neg hv]; simp only [sparseGet]
        by_cases hb : b = a
        · rw [if_pos hb.symm, if_pos hb]
        · rw [if_neg (Ne.symm hb), if_neg hb]
          by_cases hlt : b < a
          · rw [if_pos hlt, if_neg (by omega), if_pos (by omega)]
          · rw [if_neg hlt]
    · rw [if_neg h1]
      by_cases h2 : a = k
      · rw [if_pos h2]
        by_cases hv : v = d
        · rw [if_pos hv]
          by_cases hb : b = a
          · rw [if_pos hb, sparseGet_below d (k + 1) b rest (by omega) hr, hv]
          · rw [if_neg hb]; simp only [sparseGet]; rw [if_neg (by omega)]
            by_cases hlt : b < k
            · rw [if_pos hlt, sparseGet_below d (k + 1) b rest (by omega) hr]
            · rw [if_neg hlt]
        · rw [if_neg hv]; simp only [sparseGet]
          by_cases hb : b = a
          · rw [if_pos hb.symm, if_pos hb]
          · subst h2; rw [if_neg (Ne.symm hb), if_neg hb, if_neg (Ne.symm hb)]
      · rw [if_neg h2]; simp only [sparseGet]
        by_cases hb : k = b
        · rw [if_pos hb, if_neg (by omega), if_pos hb]
        · rw [if_neg hb]
          by_cases hlt : b < k
          · rw [if_pos hlt, if_neg (by omega), if_neg hb, if_pos hlt]
          · rw [if_neg hlt, ih (k + 1) hr]
            simp [hb, hlt]

theorem sparseSet_mem {t : List (Nat × α)} {a : Nat} {v : α} {c : Nat × α} (h : c ∈ sparseSet d t a v) :
    c = (a, v) ∨ c ∈ t := by
  induction t with
  | nil =>
    simp only [sparseSet] at h
    split at h <;> simp_all
  | cons x rest ih =>
    obtain ⟨k, w⟩ := x
    simp only [sparseSet] at h
    split at h
    · split at h <;> simp_all
    · split at h
      · split at h
        · exact .inr (List.mem_cons_of_mem _ h)
        · rcases List.mem_cons.1 h with h | h
          · exact .inl h
          · exact .inr (List.mem_cons_of_mem _ h)
      · rcases List.mem_cons.1 h with h | h
        · exact .inr (h ▸ List.mem_cons_self)
        · rcases ih h with h | h
          · exact .inl h
          · exact .inr (List.mem_cons_of_mem _ h)

end

/-! ## Memory -/

theorem writeByte_wf (m : Memory) (a : Nat) (b : Byte) (w : Memory.wf m = true) : Memory.wf (writeByte m a b) = true := by
  simp only [Memory.wf, Bool.and_eq_true, List.all_eq_true, decide_eq_true_eq] at w ⊢
  refine ⟨sparseSet_wf _ _ _ _ w.1, fun c hc => ?_⟩
  rcases sparseSet_mem _ hc with h | h
  · rw [h]; exact Nat.mod_lt _ (by decide)
  · exact w.2 c h

theorem writeCells_wf (m : Memory) (cells : List Host.Cell) (w : Memory.wf m = true) :
    Memory.wf (writeCells m cells) = true := by
  induction cells generalizing m with
  | nil => exact w
  | cons c rest ih => exact ih _ (writeByte_wf m c.1 c.2 w)

theorem reset_mem_wf : Memory.wf State.reset.mem = true := rfl

/-- A byte read after a write: the byte written at its own address, and what stood there at every other. -/
theorem readByte_writeByte (m : Memory) (a c : Nat) (b : Byte) (w : Memory.wf m = true) :
    readByte (writeByte m a b) c = if c % Config.memSize = a % Config.memSize then b else readByte m c := by
  simp only [Memory.wf, Bool.and_eq_true] at w
  exact sparseGet_sparseSet _ 0 _ _ _ _ w.1

/-- Bytes written at other addresses leave a byte as it was. -/
theorem readByte_writeCells (m : Memory) (cells : List Host.Cell) (c : Nat) (w : Memory.wf m = true)
    (h : ∀ x ∈ cells, x.1 % Config.memSize ≠ c % Config.memSize) : readByte (writeCells m cells) c = readByte m c := by
  induction cells generalizing m with
  | nil => rfl
  | cons x rest ih =>
    have := ih (writeByte m x.1 x.2) (writeByte_wf _ _ _ w) fun y hy => h y (List.mem_cons_of_mem _ hy)
    rw [show writeCells m (x :: rest) = writeCells (writeByte m x.1 x.2) rest from rfl, this,
      readByte_writeByte _ _ _ _ w, if_neg (Ne.symm (h x List.mem_cons_self))]

/-- A write of one byte of a transaction: dropped, or in memory (R9). -/
theorem forwardByte_cases (b : Byte) (t : Txn) (s : State) :
    (dropOf s t.portionOk t.here = none ∧
      forwardByte b t s = ({ t with pos := t.pos + 1 }, s.setMem (writeByte s.mem t.here b))) ∨
    (∃ k, dropOf s t.portionOk t.here = some k ∧ forwardByte b t s = (({ t with pos := t.pos + 1 }).drop k t.here, s)) := by
  unfold forwardByte; simp only []
  cases h : dropOf s t.portionOk t.here with
  | none => exact .inl ⟨rfl, rfl⟩
  | some k => exact .inr ⟨k, rfl, rfl⟩

theorem forwardByte_wf (b : Byte) (t : Txn) (s : State) (w : Memory.wf s.mem = true) :
    Memory.wf (forwardByte b t s).2.mem = true := by
  rcases forwardByte_cases b t s with ⟨_, h⟩ | ⟨k, _, h⟩
  · rw [h]; exact writeByte_wf _ _ _ w
  · rw [h]; exact w

theorem forwardBytes_wf (bytes : List Byte) (t : Txn) (s : State) (w : Memory.wf s.mem = true) :
    Memory.wf (forwardBytes bytes t s).2.mem = true := by
  induction bytes generalizing t s with
  | nil => exact w
  | cons b rest ih => exact ih _ _ (forwardByte_wf b t s w)

/-- The end of a burst: its bytes are in memory (R15). -/
theorem landBurst_wf (b : Burst) (s : State) (w : Memory.wf s.mem = true) : Memory.wf (landBurst b s).mem = true :=
  writeCells_wf _ _ w

/-- The bytes a pin reset finds transferred are in memory (R18). -/
theorem partialBurst_wf (n : Nat) (s : State) (w : Memory.wf s.mem = true) : Memory.wf (partialBurst n s) = true := by
  unfold partialBurst; split
  · exact writeCells_wf _ _ w
  · exact w

end Sys2Proof.Machine
end

