-- ==== Sys2Proof/Laws/Operations.lean ====
section
/-! SUPPORT. What each shared operation can do, said once: a record's change (R16), the notice (R33), an entry's place
(R28, R29), activity (R173), taking a request and replying (R20, R22), a table load's dispatch (R25), a held
transaction's examination (R5). -/

namespace Sys2Proof.Machine

/-- R16: a changed record keeps its waiting place or takes one at the tail; nothing else changes. -/
theorem changeRecord_cases (r : RecordId) (s : State) :
    (QueueItem.write r ∈ s.port.queue ∧ changeRecord r s = s) ∨
    (QueueItem.write r ∉ s.port.queue ∧
      changeRecord r s = s.setPort { s.port with queue := s.port.queue ++ [.write r] }) := by
  unfold changeRecord
  by_cases h : QueueItem.write r ∈ s.port.queue
  · exact .inl ⟨h, if_pos h⟩
  · exact .inr ⟨h, if_neg h⟩

/-- R16: after a change the record has a write waiting. -/
theorem changeRecord_waits (r : RecordId) (s : State) : QueueItem.write r ∈ (changeRecord r s).port.queue := by
  rcases changeRecord_cases r s with ⟨h, e⟩ | ⟨_, e⟩ <;> rw [e]
  · exact h
  · simp [State.setPort]

@[simp] theorem changeRecord_report (r : RecordId) (s : State) : (changeRecord r s).report = s.report := by
  unfold changeRecord; split <;> rfl

@[simp] theorem changeRecord_mem (r : RecordId) (s : State) : (changeRecord r s).mem = s.mem := by
  unfold changeRecord; split <;> rfl

@[simp] theorem changeRecord_power (r : RecordId) (s : State) : (changeRecord r s).power = s.power := by
  unfold changeRecord; split <;> rfl

@[simp] theorem changeRecord_slot (r : RecordId) (s : State) : (changeRecord r s).slot = s.slot := by
  unfold changeRecord; split <;> rfl

@[simp] theorem changeRecord_drive (r : RecordId) (s : State) : (changeRecord r s).drive = s.drive := by
  unfold changeRecord; split <;> rfl

@[simp] theorem changeRecord_light (r : RecordId) (s : State) : (changeRecord r s).light = s.light := by
  unfold changeRecord; split <;> rfl

/-- R33: after a recompute the value is the rule's, and the rings and the stack stand. -/
theorem recomputeNotice_report (s : State) :
    (recomputeNotice s).report = { s.report with value := noticeOf s.report } := by
  unfold recomputeNotice; simp only []
  split
  · rename_i h; rw [h]
  · simp [State.setReport]

theorem noticeOf_value (u : ReportUnit) (v : Option RingId) : noticeOf { u with value := v } = noticeOf u := rfl

theorem recomputeNotice_right (s : State) : NoticeRight (recomputeNotice s) := by
  unfold NoticeRight; rw [recomputeNotice_report]; rfl

/-- R28: the ring after an entry finds room. -/
theorem placeEntry_room (n : Nat) (r : Ring) (e : Entry) (h : r.unread < n) :
    placeEntry n r e = (r.produced.toNat % n,
      { r with places := r.places.set (r.produced.toNat % n) { e with overrun := false }
               produced := r.produced + 1#16, ungranted := r.ungranted ++ [r.produced] }) := by
  unfold placeEntry; rw [if_pos h]

/-- R29: the ring after an entry finds it full. -/
theorem placeEntry_full (n : Nat) (r : Ring) (e : Entry) (h : ¬ r.unread < n) :
    placeEntry n r e = ((r.produced - 1#16).toNat % n,
      { r with places := r.places.set ((r.produced - 1#16).toNat % n) { e with overrun := true } }) := by
  unfold placeEntry; rw [if_neg h]

/-- R30, R32: placing an entry moves neither the taken count nor the enable. -/
@[simp] theorem placeEntry_taken (n : Nat) (r : Ring) (e : Entry) : (placeEntry n r e).2.taken = r.taken := by
  unfold placeEntry Ring.taken; simp only []; split <;> rfl

theorem placeEntry_length (n : Nat) (r : Ring) (e : Entry) : (placeEntry n r e).2.places.length = r.places.length := by
  unfold placeEntry; simp only []; split <;> simp

/-- R173: activity changes the power controller's timers, its activity time, the nap-due flag and the release request. -/
theorem reportActivity_power (s : State) :
    (reportActivity s).power = s.power.activity s.time ∧ (reportActivity s).light = s.light
      ∧ (reportActivity s).drive = s.drive ∧ (reportActivity s).report = s.report := ⟨rfl, rfl, rfl, rfl⟩

@[simp] theorem activity_state (p : Power) (now : Time) : (p.activity now).state = p.state := by
  unfold Power.activity Power.startTimers; simp only []; split <;> rfl

@[simp] theorem activity_time (p : Power) (now : Time) : (p.activity now).activityTime = now := by
  unfold Power.activity Power.startTimers; simp only []; split <;> rfl

/-- R20, R21: what it takes for a command to take a record. -/
theorem nextRequest_some {i : Instr} {s : State} {r : List Byte} (h : nextRequest i s = some r) :
    s.request.inHand = none ∧ (∃ rest, s.request.fifo = r :: rest) ∧ dispatchOf r = i := by
  unfold nextRequest at h
  split at h
  · rename_i x rest hi hf
    split at h
    · simp_all
    · simp at h
  · simp at h

/-- R20: the unit with the record in hand. -/
theorem takeRequest_request {i : Instr} {s : State} {r : List Byte} (h : nextRequest i s = some r) :
    (takeRequest s).request = ⟨s.request.fifo.drop 1, some r⟩ := by
  obtain ⟨_, ⟨rest, hf⟩, _⟩ := nextRequest_some h
  show RequestUnit.mk (s.request.fifo.drop 1) s.request.fifo.head? = _
  rw [hf]; rfl

/-- R20 to R22: a request decided at dispatch. -/
theorem serveRequest_taken {i : Instr} {s : State} {r : List Byte} (owner : List Byte → State → State × Reply)
    (h : nextRequest i s = some r) :
    serveRequest i owner s = reply (owner r (takeRequest s)).2 (owner r (takeRequest s)).1 := by
  unfold serveRequest; rw [h]

/-- R20: a command that finds no record of its own leaves the state as it is. -/
theorem serveRequest_idle {i : Instr} {s : State} (owner : List Byte → State → State × Reply)
    (h : nextRequest i s = none) : serveRequest i owner s = s := by
  unfold serveRequest; rw [h]

/-- R5: what the examination of a held transaction's conditions can do. -/
theorem examineHolds_cases {s : State} {t : Txn} (h : s.link.phase = .held t) :
    (holds (examineRetention t s) s = true ∧ examineHolds s = setPhase (.held (examineRetention t s)) s) ∨
    (holds (examineRetention t s) s = false ∧ examineHolds s = setPhase (.claiming (examineRetention t s)) s) := by
  unfold examineHolds; rw [h]
  cases e : holds (examineRetention t s) s
  · exact .inr ⟨rfl, by simp [e]⟩
  · exact .inl ⟨rfl, by simp [e]⟩

/-- R5: Retention applies after an examination exactly when the port is not SERVING and it applied before or NAP is found. -/
theorem examineRetention_retention (t : Txn) (s : State) :
    (examineRetention t s).retention = true ↔
      s.port.retention ≠ .serving ∧ (t.retention = true ∨ s.power.state = .nap) := by
  simp [examineRetention, meetsRetention]; tauto

/-- R5: a held transaction on which Retention applies stays HELD. -/
theorem examineHolds_retention {s : State} {t : Txn} (h : s.link.phase = .held t)
    (hr : (examineRetention t s).retention = true) :
    examineHolds s = setPhase (.held (examineRetention t s)) s := by
  rcases examineHolds_cases h with ⟨_, e⟩ | ⟨n, _⟩
  · exact e
  · simp [holds, holdRetention, hr] at n

/-- R17, R25: reaching SERVING changes nothing of the port but its retention state and what its queued reads wait for. -/
@[simp] theorem Port.serve_retention (p : Port) : p.serve.retention = .serving := rfl
@[simp] theorem Port.serve_burst (p : Port) : p.serve.burst = p.burst := rfl
@[simp] theorem Port.serve_starvation (p : Port) : p.serve.starvation = p.starvation := rfl
@[simp] theorem Port.serve_queue (p : Port) : p.serve.queue = p.queue.map QueueItem.serve := rfl
@[simp] theorem QueueItem.serve_write (r : RecordId) : QueueItem.serve (.write r) = .write r := rfl
@[simp] theorem QueueItem.serve_tableRead (t : TableId) (held : Bool) :
    QueueItem.serve (.tableRead t held) = .tableRead t false := rfl

/-- R25: in SERVING no queued read waits, so whatever stands at the head of the queue claims the port. -/
theorem Port.recordClaim_serve (p : Port) : p.serve.recordClaim = !p.queue.isEmpty := by
  cases hq : p.queue with
  | nil => simp [Port.recordClaim, hq]
  | cons x rest => cases x <;> simp [Port.recordClaim, hq]

/-- R72: ending a record sets its done time and nothing else of it. -/
@[simp] theorem UpdateRecord.ended_done (u : UpdateRecord) (now : Time) : (u.ended now).done = some now := rfl
@[simp] theorem UpdateRecord.ended_endTags (u : UpdateRecord) (now : Time) : (u.ended now).endTags = u.endTags := rfl

/-- R25: a table load's dispatch. -/
theorem serveLoadTable_taken {i : Instr} {s : State} {r : List Byte} {t : TableId} (h : nextRequest i s = some r)
    (ht : tableOfCode (argU8 r 4) = some t) :
    serveLoadTable i s = (takeRequest s).setPort
      { (takeRequest s).port with queue := (takeRequest s).port.queue ++
        [.tableRead t (decide ((takeRequest s).port.retention ≠ .serving))] } := by
  unfold serveLoadTable; rw [h]; simp only [ht]

end Sys2Proof.Machine
end

