-- ==== Sys2Proof/Laws/PerInstr.lean ====
section
/-! SUPPORT. The family `Shape`, one lemma per command: how many bytes an event of the command carries, and that a
well-formed command carries no more than one burst or one record of the spec (R2, R14, R19). -/

namespace Sys2Proof.Laws

/-- The bytes an event of the command carries: what a header asks for, what has passed, or none. -/
def operandSize : Instr → Nat
  | .pinReset n => n
  | .read _ words | .write _ words => 2 * words
  | .hostWriteByte _ | .slotByteWrite _ | .intakeByteWrite _ => 1
  | .requestRecordReceive bytes => bytes.length
  | .consumerWordWrite _ | .noticeDoneWrite _ | .hostWordsOtherWrite _ | .noticeWordRead => 2
  | .powerOnReset | .linkReset | .configRead _ | .configWrite _ _ | .discardedHeader | .memoryBurstEnd
  | .memoryRetentionEntered | .memoryExitComplete | .requestBadCode | .setNotice | .loadTableLevels
  | .loadTableKeymap | .loadTableThermistor | .loadTableWatches | .mark | .turn | .jump | .cancelTurns
  | .loadWaveforms | .unloadWaveforms | .present | .cancel | .frameBoundary | .setPanel | .clearRailFault
  | .railGoodRise | .railGoodFall | .riseTimerExpiry | .railHoldTimerExpiry | .fallTimerExpiry
  | .faultCheckExpiry | .keyRawChange _ _ | .keyDebounceExpiry _ | .holdTimerExpiry _ | .repeatTimerExpiry _
  | .ringPhaseChange _ _ | .phaseFilterExpiry _ | .setInput | .wheelSnapshot | .lightTick | .pwmFrameStart _
  | .setLight | .setLightTuning | .channelDue _ | .conversionComplete _ | .setSampler | .sampleNow
  | .openDownload | .closeDownload | .setTimers | .setPowerActive | .setPowerDoze | .setPowerDeep | .restart
  | .napTimerExpiry | .deepTimerExpiry | .graceTimerExpiry => 0

/-- A well-formed command carries at most one burst. -/
def Shape.Statement (i : Instr) : Prop := i.wf = true → operandSize i ≤ 2048

theorem Shape.powerOnReset : Shape.Statement .powerOnReset := fun _ => Nat.le_of_ble_eq_true rfl
theorem Shape.pinReset (transferred : Nat) : Shape.Statement (.pinReset transferred) := by
  intro h; simpa [Instr.wf, transferredOk, operandSize] using h
theorem Shape.linkReset : Shape.Statement .linkReset := fun _ => Nat.le_of_ble_eq_true rfl
theorem Shape.read (wordAddr : BitVec 24) (words : Nat) : Shape.Statement (.read wordAddr words) := by
  intro h; simp [Instr.wf, headerLengthOk] at h; simp only [operandSize]; omega
theorem Shape.write (wordAddr : BitVec 24) (words : Nat) : Shape.Statement (.write wordAddr words) := by
  intro h; simp [Instr.wf, headerLengthOk] at h; simp only [operandSize]; omega
theorem Shape.configRead (index : Nat) : Shape.Statement (.configRead index) := fun _ => Nat.le_of_ble_eq_true rfl
theorem Shape.configWrite (index : Nat) (data : Nat) : Shape.Statement (.configWrite index data) :=
    fun _ => Nat.le_of_ble_eq_true rfl
theorem Shape.discardedHeader : Shape.Statement .discardedHeader := fun _ => Nat.le_of_ble_eq_true rfl
theorem Shape.hostWriteByte (b : Byte) : Shape.Statement (.hostWriteByte b) := fun _ => Nat.le_of_ble_eq_true rfl
theorem Shape.slotByteWrite (b : Byte) : Shape.Statement (.slotByteWrite b) := fun _ => Nat.le_of_ble_eq_true rfl
theorem Shape.intakeByteWrite (b : Byte) : Shape.Statement (.intakeByteWrite b) := fun _ => Nat.le_of_ble_eq_true rfl
theorem Shape.requestRecordReceive (bytes : List Byte) : Shape.Statement (.requestRecordReceive bytes) := by
  intro h; simp [Instr.wf, receiptOk] at h; simp only [operandSize]; omega
theorem Shape.consumerWordWrite (v : Word16) : Shape.Statement (.consumerWordWrite v) :=
    fun _ => Nat.le_of_ble_eq_true rfl
theorem Shape.noticeDoneWrite (v : Word16) : Shape.Statement (.noticeDoneWrite v) :=
    fun _ => Nat.le_of_ble_eq_true rfl
theorem Shape.hostWordsOtherWrite (v : Word16) : Shape.Statement (.hostWordsOtherWrite v) :=
    fun _ => Nat.le_of_ble_eq_true rfl
theorem Shape.noticeWordRead : Shape.Statement .noticeWordRead := fun _ => Nat.le_of_ble_eq_true rfl
theorem Shape.memoryBurstEnd : Shape.Statement .memoryBurstEnd := fun _ => Nat.le_of_ble_eq_true rfl
theorem Shape.memoryRetentionEntered : Shape.Statement .memoryRetentionEntered := fun _ => Nat.le_of_ble_eq_true rfl
theorem Shape.memoryExitComplete : Shape.Statement .memoryExitComplete := fun _ => Nat.le_of_ble_eq_true rfl
theorem Shape.requestBadCode : Shape.Statement .requestBadCode := fun _ => Nat.le_of_ble_eq_true rfl
theorem Shape.setNotice : Shape.Statement .setNotice := fun _ => Nat.le_of_ble_eq_true rfl
theorem Shape.loadTableLevels : Shape.Statement .loadTableLevels := fun _ => Nat.le_of_ble_eq_true rfl
theorem Shape.loadTableKeymap : Shape.Statement .loadTableKeymap := fun _ => Nat.le_of_ble_eq_true rfl
theorem Shape.loadTableThermistor : Shape.Statement .loadTableThermistor := fun _ => Nat.le_of_ble_eq_true rfl
theorem Shape.loadTableWatches : Shape.Statement .loadTableWatches := fun _ => Nat.le_of_ble_eq_true rfl
theorem Shape.mark : Shape.Statement .mark := fun _ => Nat.le_of_ble_eq_true rfl
theorem Shape.turn : Shape.Statement .turn := fun _ => Nat.le_of_ble_eq_true rfl
theorem Shape.jump : Shape.Statement .jump := fun _ => Nat.le_of_ble_eq_true rfl
theorem Shape.cancelTurns : Shape.Statement .cancelTurns := fun _ => Nat.le_of_ble_eq_true rfl
theorem Shape.loadWaveforms : Shape.Statement .loadWaveforms := fun _ => Nat.le_of_ble_eq_true rfl
theorem Shape.unloadWaveforms : Shape.Statement .unloadWaveforms := fun _ => Nat.le_of_ble_eq_true rfl
theorem Shape.present : Shape.Statement .present := fun _ => Nat.le_of_ble_eq_true rfl
theorem Shape.cancel : Shape.Statement .cancel := fun _ => Nat.le_of_ble_eq_true rfl
theorem Shape.frameBoundary : Shape.Statement .frameBoundary := fun _ => Nat.le_of_ble_eq_true rfl
theorem Shape.setPanel : Shape.Statement .setPanel := fun _ => Nat.le_of_ble_eq_true rfl
theorem Shape.clearRailFault : Shape.Statement .clearRailFault := fun _ => Nat.le_of_ble_eq_true rfl
theorem Shape.railGoodRise : Shape.Statement .railGoodRise := fun _ => Nat.le_of_ble_eq_true rfl
theorem Shape.railGoodFall : Shape.Statement .railGoodFall := fun _ => Nat.le_of_ble_eq_true rfl
theorem Shape.riseTimerExpiry : Shape.Statement .riseTimerExpiry := fun _ => Nat.le_of_ble_eq_true rfl
theorem Shape.railHoldTimerExpiry : Shape.Statement .railHoldTimerExpiry := fun _ => Nat.le_of_ble_eq_true rfl
theorem Shape.fallTimerExpiry : Shape.Statement .fallTimerExpiry := fun _ => Nat.le_of_ble_eq_true rfl
theorem Shape.faultCheckExpiry : Shape.Statement .faultCheckExpiry := fun _ => Nat.le_of_ble_eq_true rfl
theorem Shape.keyRawChange (k : Key) (down : Bool) : Shape.Statement (.keyRawChange k down) :=
    fun _ => Nat.le_of_ble_eq_true rfl
theorem Shape.keyDebounceExpiry (k : Key) : Shape.Statement (.keyDebounceExpiry k) :=
    fun _ => Nat.le_of_ble_eq_true rfl
theorem Shape.holdTimerExpiry (k : Key) : Shape.Statement (.holdTimerExpiry k) := fun _ => Nat.le_of_ble_eq_true rfl
theorem Shape.repeatTimerExpiry (k : Key) : Shape.Statement (.repeatTimerExpiry k) :=
    fun _ => Nat.le_of_ble_eq_true rfl
theorem Shape.ringPhaseChange (p : Phase) (high : Bool) : Shape.Statement (.ringPhaseChange p high) :=
    fun _ => Nat.le_of_ble_eq_true rfl
theorem Shape.phaseFilterExpiry (p : Phase) : Shape.Statement (.phaseFilterExpiry p) :=
    fun _ => Nat.le_of_ble_eq_true rfl
theorem Shape.setInput : Shape.Statement .setInput := fun _ => Nat.le_of_ble_eq_true rfl
theorem Shape.wheelSnapshot : Shape.Statement .wheelSnapshot := fun _ => Nat.le_of_ble_eq_true rfl
theorem Shape.lightTick : Shape.Statement .lightTick := fun _ => Nat.le_of_ble_eq_true rfl
theorem Shape.pwmFrameStart (c : LightChannel) : Shape.Statement (.pwmFrameStart c) :=
    fun _ => Nat.le_of_ble_eq_true rfl
theorem Shape.setLight : Shape.Statement .setLight := fun _ => Nat.le_of_ble_eq_true rfl
theorem Shape.setLightTuning : Shape.Statement .setLightTuning := fun _ => Nat.le_of_ble_eq_true rfl
theorem Shape.channelDue (c : Channel) : Shape.Statement (.channelDue c) := fun _ => Nat.le_of_ble_eq_true rfl
theorem Shape.conversionComplete (code : BitVec 10) : Shape.Statement (.conversionComplete code) :=
    fun _ => Nat.le_of_ble_eq_true rfl
theorem Shape.setSampler : Shape.Statement .setSampler := fun _ => Nat.le_of_ble_eq_true rfl
theorem Shape.sampleNow : Shape.Statement .sampleNow := fun _ => Nat.le_of_ble_eq_true rfl
theorem Shape.openDownload : Shape.Statement .openDownload := fun _ => Nat.le_of_ble_eq_true rfl
theorem Shape.closeDownload : Shape.Statement .closeDownload := fun _ => Nat.le_of_ble_eq_true rfl
theorem Shape.setTimers : Shape.Statement .setTimers := fun _ => Nat.le_of_ble_eq_true rfl
theorem Shape.setPowerActive : Shape.Statement .setPowerActive := fun _ => Nat.le_of_ble_eq_true rfl
theorem Shape.setPowerDoze : Shape.Statement .setPowerDoze := fun _ => Nat.le_of_ble_eq_true rfl
theorem Shape.setPowerDeep : Shape.Statement .setPowerDeep := fun _ => Nat.le_of_ble_eq_true rfl
theorem Shape.restart : Shape.Statement .restart := fun _ => Nat.le_of_ble_eq_true rfl
theorem Shape.napTimerExpiry : Shape.Statement .napTimerExpiry := fun _ => Nat.le_of_ble_eq_true rfl
theorem Shape.deepTimerExpiry : Shape.Statement .deepTimerExpiry := fun _ => Nat.le_of_ble_eq_true rfl
theorem Shape.graceTimerExpiry : Shape.Statement .graceTimerExpiry := fun _ => Nat.le_of_ble_eq_true rfl

end Sys2Proof.Laws
end

