-- ==== Sys2Proof/Tests/Slice0.lean ====
section
/-! SUPPORT. Tests: ill-formed commands are refused, the spec's worked examples, one step of a command of each family, and
for every statement with hypotheses a state and operands that meet them together (`witness_<statement>`). -/

namespace Sys2Proof.Tests

open Sys2Proof.Machine

/-! ## Ill-formed commands (WellFormed.lean) -/

theorem test_wf_pinReset : (Instr.pinReset 2049).wf = false ∧ (Instr.pinReset 2048).wf = true := by decide
theorem test_wf_read : (Instr.read 0#24 0).wf = false ∧ (Instr.read 0#24 1025).wf = false := by decide
theorem test_wf_write : (Instr.write 0#24 1025).wf = false ∧ (Instr.write 0#24 1024).wf = true := by decide
theorem test_wf_requestRecordReceive :
    (Instr.requestRecordReceive []).wf = false ∧ (Instr.requestRecordReceive (List.replicate 33 0#8)).wf = false := by
  decide

/-- No row of the table gives bits. -/
theorem test_decodeTableWord : decodeTableWord 32 0 = none := by decide

/-! ## Small states -/

/-- ACTIVE, with INIT's record writes made. -/
def awake : State := { State.reset with
  power := { State.reset.power with state := .active }
  port := { State.reset.port with queue := [], initLeft := 0 } }

def inState (st : PowerState) (s : State) : State := s.setPower { s.power with state := st }

/-- A burst of a kind in progress. -/
def during (k : BurstKind) (s : State) : State := s.setPort { s.port with burst := some ⟨k, []⟩ }

def calm : State := during .recordWrite awake

/-- A record of a code with arguments from +4, host tag 5. -/
def record (code : Nat) (args : List Byte) : List Byte := padTo 32 ([BitVec.ofNat 8 code, 0#8, 5#8, 0#8] ++ args)

/-- A record alone in the FIFO. -/
def asking (r : List Byte) (s : State) : State := s.setRequest ⟨[r], none⟩

/-- A transaction in its data phase. -/
def inData (x : Txn) (s : State) : State := s.setLink { s.link with phase := .data x }

/-- A WRITE of a length in bytes at an address. -/
def writing (addr len : Nat) : Txn := ⟨true, addr, len, 0, true, false, false, [], [], none⟩

/-- A READ of a length in bytes at an address. -/
def reading (addr len : Nat) : Txn := { writing addr len with isWrite := false }

/-- The set of the worked example of chapter 4. -/
def exampleSet : WaveSet :=
  { setId := 1, modeCount := 3, bandCount := 4, edges := [0, 100, 200, 350], upper := 500, period := 200, cleanMode := 0,
    fallback := 2, modes := [⟨false, 0, false⟩, ⟨true, 2, true⟩, ⟨true, 1, false⟩],
    tables := [(64, 60), (64, 44), (64, 36), (64, 30), (64, 0), (64, 14), (64, 10), (64, 8), (64, 0), (64, 20), (64, 16),
      (64, 12)] }

def loaded (s : State) : State := s.setWave { s.wave with setState := .loaded, set := some exampleSet }

/-- A record of a FULL update for a request with tag 9, over one tile. -/
def upd : UpdateRecord := ⟨[9], 0, .request, 0, ⟨0, 0, 0, 0⟩, 1, some 1, some 1, {}, 0#32, 0#32, none, none⟩

def lane (st : LaneState) : Lane := ⟨upd, st, 0, .needRead, 1, 0, 33, false⟩

def withLane (st : LaneState) (s : State) : State := s.setLane 0 (some (lane st))

def railIn (st : RailState) (timer : Option Time) (good : Bool) (s : State) : State :=
  s.setRail { s.rail with state := st, timer := timer, good := good }

def keyIn (x : KeyUnit) (s : State) : State := s.setKey .power x

/-! ## The worked examples of the spec -/

/-- Chapter 10, 12: the check of the nine digits. -/
theorem test_crc32 : crc32 [49#8, 50#8, 51#8, 52#8, 53#8, 54#8, 55#8, 56#8, 57#8] = 0xCBF43926#32 := by
  decide +kernel

/-- Chapter 4: lanes 1 to 4 choose bands 1, 1, 2 and 2. -/
theorem test_bands : exampleSet.chooseBand none 160 = 1 ∧ exampleSet.chooseBand (some 1) 205 = 1
    ∧ exampleSet.chooseBand (some 1) 212 = 2 ∧ exampleSet.chooseBand (some 2) 195 = 2
    ∧ exampleSet.chooseBand (some 2) 188 = 1 := by decide

/-- Chapter 9: the thermistor codes of the cold-lock example. -/
theorem test_thermistor : thermValue defaultTherm 470 = 163 ∧ thermValue defaultTherm 580 = 40
    ∧ thermValue defaultTherm 700 = -75 ∧ thermValue defaultTherm 560 = 60 ∧ thermValue defaultTherm 520 = 100 := by decide

/-- Chapter 9: battery codes in millivolts. -/
theorem test_millivolts : battValue 5120 724 = 3620 ∧ battValue 5120 699 = 3495 ∧ battValue 5120 659 = 3295 := by decide

/-- Chapter 9: watch 0 of the battery example, its window's end and the code past it. -/
theorem test_watch_window :
    let w : Watch := { Watch.reset with margin := 3499 }
    w.test 3500 = false ∧ w.test 3495 = true ∧ w.test 3499 = true ∧ { w with strict := true }.test 3499 = false := by
  decide

/-- Chapter 8: the composition during a rail rise. -/
def rise : State :=
  let s := railIn .rising none false awake
  let s1 := s.setLight { s.light with
    level := 40, warmth := 5, follow := true, table := List.replicate 64 620, tuning := ⟨100, 700, 350, 400, 300, 50, 24⟩ }
  let s2 := s1.setPower { s1.power with battery := .low }
  s2.setSampler (s2.sampler.setChan .amb { s2.sampler.chans.amb with value := some (300, 0#32) })
theorem test_light_composition : (composeLight rise).factor = 566 ∧ (composeLight rise).capCause = .inrush
    ∧ (composeLight rise).total = 300 ∧ (composeLight rise).coolTarget = 206 ∧ (composeLight rise).warmTarget = 94 := by
  decide

/-- Chapter 8: at ON the targets are 240 and 110, and the cool duty's last tick covers 40. -/
theorem test_light_after_rise : (composeLight (railIn .on none true rise)).coolTarget = 240
    ∧ (composeLight (railIn .on none true rise)).warmTarget = 110 ∧ rampDuty 50 240 200 = 240 ∧ rampDuty 50 110 94 = 110 := by
  decide

/-- Chapter 8: the default table's entries 40 and 1. -/
theorem test_light_table : (LightUnit.reset 0#32).table.getD 40 0 = 634 ∧ (LightUnit.reset 0#32).table.getD 1 0 = 15 := by
  decide

/-! ## One step of each family -/

/-- R3: item 1 of the link profile. -/
theorem test_configRead : ∃ t, exec (.configRead 1) calm = .next t ∧ t.link.configAnswer = 2048 := ⟨_, rfl, by decide⟩
/-- R98: rail good rises in RISING. -/
theorem test_railGoodRise : ∃ t, exec .railGoodRise (railIn .rising (some 40#32) false calm) = .next t
    ∧ t.rail.state = .on ∧ t.rail.timer = none := ⟨_, rfl, by decide⟩
/-- R102: the fault count saturates. -/
theorem test_railGoodFall : ∃ t, exec .railGoodFall ((railIn .hold none true calm).setRail
      ⟨.hold, .none, 255, none, true⟩) = .next t ∧ t.rail.state = .fault ∧ t.rail.count = 255 := ⟨_, rfl, by decide⟩
/-- R131: one tick moves each duty by min(R, distance). -/
theorem test_lightTick : ∃ t, exec .lightTick (calm.setLight { calm.light with
      coolTarget := 206, warmTarget := 94, coolDuty := 50, warmDuty := 50, ramping := true }) = .next t
    ∧ t.light.coolDuty = 90 ∧ t.light.warmDuty = 90 := ⟨_, rfl, by decide⟩
/-- R116: a backward step takes the position from 0 to 2^32 − 1. -/
theorem test_ringPhaseChange : ∃ t, exec (.ringPhaseChange .b true)
      (calm.setInput { calm.input with phaseFilter := 0 }) = .next t ∧ t.input.position = 0xFFFFFFFF#32 :=
  ⟨_, rfl, by decide⟩
/-- R147: SAMPLE-NOW of a channel outside the three is refused. -/
theorem test_sampleNow : ∃ t, exec .sampleNow (asking (record 0x49 [3#8]) calm) = .next t
    ∧ (lastEntry t .reply).body = .reply 0x49#8 0#8 (.refused .badArg) := ⟨_, rfl, by decide⟩
/-- R178: the deep timer's expiry begins a grace of 15 s. -/
theorem test_deepTimerExpiry : ∃ t, exec .deepTimerExpiry
      (calm.setPower { calm.power with deepTimer := some 0#32 }) = .next t
    ∧ t.power.state = .departing .grace ∧ t.power.graceTimer = some 15000#32 := ⟨_, rfl, by decide⟩
/-- R53: the turn serial goes from 65535 to 1. -/
theorem test_nextSerial : nextSerial 65535 = 1 ∧ nextSerial 0 = 1 := by decide
/-- R157 to R160: the fourth byte of a sync begins a header. -/
theorem test_intakeByteWrite : ∃ t, exec (.intakeByteWrite 0xE2#8) (inData (writing 0x1F00000 8)
      (calm.setIntake { calm.intake with parser := .hunt [0xD4#8, 0x7B#8, 0x19#8] })) = .next t
    ∧ t.intake.parser = .header [] := ⟨_, rfl, by decide⟩

/-- R162: the 12th byte of a header decides a COPY chunk. -/
theorem test_chunkHeader : ∃ t, exec (.intakeByteWrite 0#8) (inData (writing 0x1F00006 4)
      (calm.setIntake { calm.intake with
        entries := calm.intake.entries.set 0 ⟨.openState, 7, 4096, 2, 0, [], 0, 0, 0, 0, []⟩
        cursor := 6
        parser := .header ([7#8, 0#8, 0#8, 0#8, 1#8, 0#8, 5#8, 0#8, 0#8, 0#8, 0#8]) })) = .next t
    ∧ (t.download 0).inFlight = [1] ∧ t.intake.parser.inParse = true := ⟨_, rfl, by decide +kernel⟩
/-- R152, R176: a watch's COLD-ON in NAP turns the cold lock on and moves the part to DOZE. -/
theorem test_watchWakes :
    let s := inState .nap awake
    let t := evaluateWatch .batt 0 (s.setWatches (s.watches.set 0
      { Watch.reset with margin := 9, mode := .every, onTrue := .coldOn })) 0
    t.wave.coldLock = true ∧ t.power.state = .doze ∧ t.power.lastWake = .watch := by decide +kernel
/-- R25: a table read asked for while the memory is not in SERVING makes no claim until it serves. -/
theorem test_heldTableRead :
    let p : Port := { State.reset.port with retention := .entering, queue := [.tableRead .levels true] }
    p.recordClaim = false ∧ p.serve.recordClaim = true := by decide
/-- R5: a WRITE that was held on Copy room and finds room in NAP, the port not SERVING, stays HELD on Retention. -/
theorem test_retentionBeginsWhileHeld :
    let s := (inState .nap awake).setPort { awake.port with retention := .entering }
    let t : Txn := writing 0x1F00000 4
    (examineHolds (s.setLink { s.link with phase := .held t })).link.phase = .held { t with retention := true }
    ∧ (examineHolds (awake.setLink { awake.link with phase := .held t })).link.phase = .claiming t := by decide

/-- R184: a FREE lane's modes and band are coded none. -/
theorem test_freeLane : (laneBytes none).drop 8 = [0xFF#8, 0xFF#8, 0xFF#8] ++ List.replicate 21 0#8 := by decide

/-! ## Witnesses: states and operands that meet the hypotheses of the statements -/

theorem witness_EmptyQueueGoesOn :
    (awake.pending = [] ∧ awake.power.restarting = false ∧ awake.request.fifo = [])
    ∧ (asking (record 0x11 []) awake).pending = [] ∧ (asking (record 0x11 []) awake).request.inHand = none
    ∧ (asking (record 0x11 []) awake).request.fifo = record 0x11 [] :: [] := by decide

theorem witness_CommandsLeaveQueueTimeMemory : Instr.turn.mayStore = false := by decide

/-- An entry OPEN over the first 8192 bytes of the assembly area, and a set LOADED. -/
def guarding : State := loaded (awake.setDownload 0 ⟨.openState, 7, 4096, 2, 0, [], 0, 0, 0, 0, []⟩)

theorem witness_GuardedBytesStand : (Instr.hostWriteByte 1#8).isHostWrite = true ∧ Memory.wf guarding.mem = true
    ∧ ∀ a ∈ [0x1A00000, 0x1CFFFFF, 0x1F80000, 0x1F80FFF, 0x1F87000, 0x1F8CFFF, 0x1D00000, 0x1EFFFFF, 0x0C00000,
        0x0C01FFF], Guarded guarding a := by decide

/-- State.reset meets the premise of every invariant's statement, and a step from it answers (`witness_Safe`). -/
theorem witness_Safe : Safe State.reset := ⟨_, rfl⟩
theorem witness_MemoryStaysCanonical : Memory.wf State.reset.mem = true := by decide
theorem witness_RingsAndNoticeStayRight : (RingsBounded State.reset ∧ NoticeRight State.reset)
    ∧ StackOrdered State.reset ∧ StarvationBounded State.reset := by decide +kernel
theorem witness_SlotsStayConsistent : PagesAdjacent State.reset ∧ TurnsBounded State.reset := by decide
theorem witness_LanesAndGhostCountsStayBounded : LanesApart State.reset ∧ GhostsBounded State.reset := by decide +kernel
theorem witness_RailsServeTheLanes : RailsServeLanes State.reset := by decide +kernel
theorem witness_LightStaysBounded : LightBounded State.reset ∧ LightForcedOff State.reset := by decide
theorem witness_DownloadRangesStayApart : RangesApart State.reset := by decide
theorem witness_DeepStaysAsleep : DeepAsleep State.reset := by decide
theorem witness_SettingsStayInRange : SettingsInRange State.reset := by decide +kernel

/-- The POWER ring with entries 1..n unread. -/
def ringed (n : Nat) : State :=
  let s := awake.setRing .power { awake.report.rings.power with produced := BitVec.ofNat 16 n }
  s.setReport { s.report with value := noticeOf s.report }

theorem witness_ProducedEntriesTakeTheirPlaces : ((ringed 7).ring .power).unread < RingId.power.capacity
    ∧ ((ringed 8).ring .power).unread = RingId.power.capacity ∧ RingsBounded (ringed 8) ∧ NoticeRight (ringed 8) := by
  decide +kernel

theorem witness_LaneTakesItsBand : (loaded awake).wave.set = some exampleSet ∧ 0 < exampleSet.bandCount
    ∧ exampleSet.edges.length = exampleSet.bandCount ∧ ascending exampleSet.edges = true
    ∧ exampleSet.edges.getLastD 0 < exampleSet.upper := by decide

theorem witness_LaneResolvesItsMode :
    (loaded awake).wave.set = some exampleSet ∧ exampleSet.isPartial 1 = true
    ∧ ¬ (∃ p ∈ upd.rect.places, awake.drive.settings.ghostLimit < sparseGet 0 awake.drive.ghost p + 2)
    ∧ ∃ p ∈ upd.rect.places, awake.drive.settings.ghostLimit < sparseGet 0 [(0, 5)] p + 2 := by decide

theorem witness_ThermistorConversion : Sampler.reset.therm.length = 8 ∧ thermTableOk Sampler.reset.therm = true
    ∧ (∀ code ∈ [0, 1023], code ≤ 1023 ∧ (code = 0 ∨ code = 1023))
    ∧ ∀ code ∈ [1, 1022], code ≤ 1023 ∧ 0 < code ∧ code < 1023 := by decide

/-- Watch 0 of the battery example. -/
def watching : State := awake.setWatches (awake.watches.set 0 { Watch.reset with margin := 3499, mode := .edge })

theorem witness_WatchMeetsAnEvent : awake.watches[(0 : Fin 8)].mode = .off
    ∧ watching.watches[(0 : Fin 8)].mode ≠ .off ∧ watching.watches[(0 : Fin 8)].event = .batt := by decide

/-- Watch 0, of mode EVERY, with an action on TRUE, and a battery state. -/
def acting (a : WatchAction) (b : Battery) (s : State) : State :=
  (s.setWatches (s.watches.set 0 { Watch.reset with margin := 3299, mode := .every, onTrue := a })).setPower
    { s.power with battery := b }

/-- The value 3299 is TRUE and 3300 FALSE, whose action is NONE; NAP, ACTIVE and DEPARTING; no RESTART waits. -/
theorem witness_WatchMeetsAnEvent_action :
    (∀ st ∈ [PowerState.active, .doze, .nap, .departing .grace, .departing .drain],
      ∀ a ∈ [WatchAction.battNormal, .battLow, .battCritical, .coldOn, .coldOff], ∀ b ∈ [Battery.normal, .low, .critical],
        let s := acting a b (inState st awake)
        let w := s.watches[(0 : Fin 8)]
        w.mode = .every ∧ w.event = .batt ∧ w.onTrue = a ∧ s.power.battery = b ∧ s.power.state = st
        ∧ s.power.restarting = false)
    ∧ ({ Watch.reset with margin := 3299 }.test 3299 = true ∧ { Watch.reset with margin := 3299 }.test 3300 = false)
    ∧ awake.power.reason ≠ .critical ∧ 0 < awake.power.grace := by decide +kernel

def group (k : ChunkKind) (check : Word32) : CheckGroup := ⟨0, 1, k, 1000, 5#32, check⟩

theorem witness_GroupIsSettled : (awake.download 0).state ≠ .openState ∧ (guarding.download 0).state = .openState
    ∧ ((group .copy 5#32).kind = .copy ∧ (group .copy 5#32).crc = (group .copy 5#32).check)
    ∧ ((group .copy 6#32).kind = .copy ∧ (group .copy 6#32).crc ≠ (group .copy 6#32).check)
    ∧ (group .length 5#32).kind = .length
    ∧ ((group .abort 5#32).kind = .abort ∧ (group .abort 5#32).crc = (group .abort 5#32).check)
    ∧ (group .abort 6#32).crc ≠ (group .abort 6#32).check := by decide

theorem witness_ResetsStartThePartAfresh : (0 : Nat) ≤ 2048 ∧ (2048 : Nat) ≤ 2048 := by decide

theorem witness_LinkResetEndsTheTransaction : Steady awake ∧ Steady (inData (writing 0 4) awake)
    ∧ (writing 0 4).dropped = [] ∧ [DropKind.mirror] ≠ [] ∧ [DropKind.mirror].Nodup := by decide

theorem witness_ConfigurationIsAnswered : awake.power.restarting = false ∧ awake.link.phase = .idle
    ∧ awake.power.state ≠ .nap ∧ awake.power.state ≠ .departing .grace := by decide

/-- The POWER key with its raw level DOWN, not yet accepted. -/
def pressing : KeyUnit := ⟨true, false, some 10#32, .released, none, none, 0, 0#32, false⟩

theorem witness_TransactionsAndKeysWakeThePart :
    headerLengthOk 1 = true ∧ awake.link.phase = .idle ∧ awake.power.restarting = false
    ∧ (inState .nap awake).power.state = .nap ∧ (inState .doze awake).power.state = .doze
    ∧ (inState (.departing .grace) awake).power.state = .departing .grace ∧ awake.power.reason = .timer
    ∧ (awake.setPower { awake.power with reason := .critical }).power.reason ≠ .timer
    ∧ pressing.timer ≠ none ∧ pressing.raw = true ∧ pressing.gesture = .released
    ∧ ((keyIn pressing (inState .nap awake)).input.keys.get .power = pressing
      ∧ (keyIn pressing (inState .nap awake)).power.restarting = false)
    ∧ (keyIn pressing (inState .deep (awake.setPort { awake.port with retention := .retained }))).port.retention
        = .retained := by decide

/-- The FIFO full. -/
def full : State := awake.setRequest ⟨List.replicate 16 (record 0x11 []), none⟩

theorem witness_HeaderBeginsATransaction : awake.link.phase = .idle ∧ Awake awake ∧ Awake full ∧ full.link.phase = .idle
    ∧ (1 : Nat) ≤ 1 ∧ (1024 : Nat) ≤ 1024
    ∧ 16 - full.request.fifo.length < (min (0x1F81000 + 32) (0x1F81000 + 0x1000) - max 0x1F81000 0x1F81000) / 32 := by
  decide

theorem witness_HostByteIsPassedOrDropped :
    ∀ x ∈ [writing 0 2, writing 0x1CFFFFE 4, { writing 0 2 with pos := 1 }],
      Steady (inData x awake) ∧ (inData x awake).link.phase = .data x ∧ x.isWrite = true ∧ x.pos < x.len
      ∧ unsnooped x.portionOk (areaOf x.here) = true := by decide

/-- The last byte inside the geometry, the first past its width, the first past its height; slots 0 (SHOWN) and 1. -/
theorem witness_SlotByteMarksItsTile :
    (∀ o ∈ [1403 * 1024 + 935, 936, 1404 * 1024],
      WritesAt (inData (writing (0x1400000 + o) 2) awake) (writing (0x1400000 + o) 2) (.slot 0))
    ∧ WritesAt (inData (writing 0x1580000 2) awake) (writing 0x1580000 2) (.slot 1)
    ∧ awake.power.restarting = false ∧ (writing 0x1580000 2).dropped = []
    ∧ (2 * 935 + 1 < awake.drive.settings.width ∧ 1403 < awake.drive.settings.height)
    ∧ (awake.slotAt 0).role = .shown ∧ (awake.slotAt 1).role ≠ .shown
    ∧ ((awake.setSlotAt 1 ⟨.ahead, true, 1, [], 0⟩).slotAt 1).ready = true := by decide

def chunk : Chunk := ⟨.copy, 0, 0, 5, 0, 0#32⟩
def parsing (p : Parser) : State := awake.setIntake { awake.intake with parser := p, cursor := 6 }

theorem witness_IntakeByteIsParsed :
    (∀ p ∈ [Parser.hunt [], .header [], .header (List.replicate 10 1#8), .payload chunk, .check chunk [1#8, 2#8],
        .syncExpect [], .syncExpect [0xD4#8, 0x7B#8, 0x19#8]],
      Steady (inData (writing 0x1F00006 4) (parsing p))
      ∧ WritesAt (inData (writing 0x1F00006 4) (parsing p)) (writing 0x1F00006 4) .intake
      ∧ (writing 0x1F00006 4).dropped = [])
    ∧ (0x1F00006 - 0x1F00000 = (parsing (.hunt [])).intake.cursor)
    ∧ (writing 0x1F00004 4).intakeJudged = false ∧ 0x1F00004 - 0x1F00000 ≠ (parsing (.hunt [])).intake.cursor := by decide

/-- The 12 header bytes of a chunk after its sync. -/
def headerOf (tag index length flags : Nat) : List Byte :=
  leBytes 4 tag ++ leBytes 2 index ++ leBytes 2 length ++ leBytes 2 flags ++ [0#8, 0#8]

/-- All but the last byte of a header in parse, with an entry 0 of tag 7, two chunks and a state, its place 0 GOOD. -/
def headed (st : DownloadState) (h : List Byte) : State :=
  (parsing (.header (h.take 11))).setDownload 0 ⟨st, 7, 4096, 2, 0, [(0, .good)], 1, 0, 0, 0, []⟩

/-- A header error, an unknown tag, an abort, an index past the book, a place held, both ends of what fits. -/
theorem witness_IntakeByteIsParsed_header :
    (∀ st ∈ [DownloadState.openState, .complete, .aborted],
      ∀ h ∈ [headerOf 7 1 32769 0, headerOf 9 1 1 0, headerOf 7 0 0 1, headerOf 7 2 1 0, headerOf 7 0 4096 0,
          headerOf 7 1 0 0, headerOf 7 1 1 0, headerOf 7 1 4096 0, headerOf 7 1 4097 0],
        Steady (inData (writing 0x1F00006 4) (headed st h))
        ∧ WritesAt (inData (writing 0x1F00006 4) (headed st h)) (writing 0x1F00006 4) .intake
        ∧ (headed st h).intake.parser = .header (h.take 11) ∧ (h.take 11).length = 11 ∧ h.take 11 ++ [0#8] = h
        ∧ ((headed st h).download 0).state = st ∧ ((headed st h).download 0).tag = 7
        ∧ ∀ k, ((headed st h).download k).state ≠ .free → k = 0)
    ∧ 32768 < argU16 (headerOf 7 1 32769 0) 6 ∧ argU32 (headerOf 9 1 1 0) 0 ≠ 7 ∧ argU16 (headerOf 7 0 0 1) 8 = 1
    ∧ argU16 (headerOf 7 2 1 0) 4 = 2 ∧ sparseGet .missing [(0, Place.good)] 0 = .good
    ∧ argU16 (headerOf 7 1 4097 0) 6 = 4097 := by decide +kernel

/-- The 4th check byte of a chunk, ignored or not, with nothing or a payload byte before its group. -/
theorem witness_IntakeByteIsParsed_check : ∀ c ∈ [chunk, { chunk with kind := .ignore }],
    ∀ items ∈ [[], [CopyItem.payload 0 0x0C00000 1#8]],
      let s := inData (writing 0x1F00006 4) (parsing (.check c [1#8, 2#8, 3#8]))
      let s1 := s.setIntake { s.intake with buffer := items }
      Steady s1 ∧ WritesAt s1 (writing 0x1F00006 4) .intake ∧ s1.intake.parser = .check c [1#8, 2#8, 3#8]
      ∧ s1.intake.copying = 0 := by decide +kernel

theorem witness_RequestRecordJoinsTheFifo :
    let x := writing 0x1F81FE0 32
    Steady (inData x awake) ∧ WritesAt (inData x awake) x .request ∧ x.portionOk = true ∧ x.dropped = []
    ∧ (∀ bytes ∈ [record 0x11 [], (record 0x11 []).take 31], bytes ≠ [] ∧ (x.partialRecord ++ bytes).length ≤ 32
        ∧ ∀ k < bytes.length, areaOf ((x.addr + x.pos + k) % Config.memSize) = .request) := by decide +kernel

theorem witness_ConsumerWordsAreTaken :
    (∀ o ∈ [0, 10, 12, 14, 18, 4094], WritesAt (inData (writing (0x1F82000 + o) 2) awake) (writing (0x1F82000 + o) 2)
      .hostWords ∧ (writing (0x1F82000 + o) 2).dropped = [] ∧ (writing (0x1F82000 + o) 2).here % 2 = 0)
    ∧ awake.power.restarting = false ∧ 0 = 2 * (RingId.power.id - 1) ∧ 10 = 2 * (RingId.reply.id - 1)
    ∧ (∀ o ∈ [12, 14, 18, 4094], 12 ≤ o ∧ o ≠ 16) := by decide +kernel

theorem witness_NoticeIsPushedAndPopped :
    Reads (inData (reading 0x1F8C040 2) awake) (reading 0x1F8C040 2)
    ∧ (reading 0x1F8C040 2).addr + (reading 0x1F8C040 2).pos ≤ 0x1F8C040
    ∧ 0x1F8C042 ≤ (reading 0x1F8C040 2).addr + (reading 0x1F8C040 2).len ∧ NoticeRight awake
    ∧ WritesAt (inData (writing 0x1F82010 2) awake) (writing 0x1F82010 2) .hostWords ∧ (writing 0x1F82010 2).here = 0x1F82010
    ∧ awake.power.restarting = false ∧ (reading 0x1F8C040 2).dropped = [] := by decide +kernel

theorem witness_BurstEndLandsItsBytes : (during .recordWrite awake).port.burst = some ⟨.recordWrite, []⟩
    ∧ (during .copy awake).port.burst = some ⟨.copy, []⟩ ∧ (during .copy awake).intake.buffer = []
    ∧ awake.power.restarting = false
    ∧ Reads (inData (reading 0 2) (during .passThrough awake)) (reading 0 2) ∧ noticeAhead (reading 0 2) = false := by
  decide

theorem witness_RetentionFollowsTheMemory : Steady awake ∧ Steady (inState .nap awake) := by decide

def latching : State := during (.latchRead 0) (loaded (awake.setLane 0 (some { lane .latch with step := .reading })))

theorem witness_LatchTakesTheTile : latching.power.restarting = false
    ∧ latching.port.burst = some ⟨.latchRead 0, []⟩ ∧ latching.lane 0 = some { lane .latch with step := .reading }
    ∧ ({ lane .latch with step := LatchStep.reading } : Lane).state = .latch ∧ latching.wave.set = some exampleSet := by
  decide

/-- A load whose header is read, with three modes and four bands if `bands` is 4. -/
def loading (bands : Byte) : State :=
  let s := during .waveRead awake
  (s.setWave { s.wave with setState := .loading, load := some .header }).setMem
    (writeCells [] (cellsAt 0x1D00000 [0x5A#8, 0x32#8, 0x57#8, 0x53#8, 1#8, 0#8, 0#8, 0#8, 3#8, bands, 0#8, 0#8, 0#8, 2#8]))

theorem witness_LoadChecksTheHeader : ∀ bands ∈ [4#8, 13#8],
    (loading bands).power.restarting = false ∧ NoUpdates (loading bands) ∧ (loading bands).wave.setState = .loading
    ∧ (loading bands).wave.set = none ∧ (loading bands).wave.load = some .header
    ∧ (loading bands).port.burst = some ⟨.waveRead, []⟩
    ∧ (bands = 4#8 ↔ within 1 12 (readValue (loading bands).mem 0x1D00009 1)) := by decide +kernel

/-! ### Requests -/

theorem witness_RequestsAreAnsweredAtDispatch : requestOwner .mark = some markRequest
    ∧ Takes .mark (asking (record 0x10 []) awake) (record 0x10 []) := ⟨rfl, by decide⟩

theorem witness_BadCodeAndSetNotice : Takes .requestBadCode (asking (record 0x77 []) awake) (record 0x77 [])
    ∧ (Takes .setNotice (asking (record 1 [63#8]) awake) (record 1 [63#8]) ∧ argU8 (record 1 [63#8]) 4 < 64)
    ∧ Takes .setNotice (asking (record 1 [64#8]) awake) (record 1 [64#8]) ∧ 64 ≤ argU8 (record 1 [64#8]) 4 := by decide

theorem witness_TableLoadsWaitForTheirRead :
    (∀ v ∈ [0#8, 5#8], Takes .loadTableLevels (asking (record 2 [v]) calm) (record 2 [v]) ∧ reqCode (record 2 [v]) = 2
      ∧ tableOfCode (argU8 (record 2 [v]) 4) = none)
    ∧ (Takes .loadTableLevels (asking (record 2 [1#8]) calm) (record 2 [1#8])
      ∧ tableOfCode (argU8 (record 2 [1#8]) 4) = some .levels ∧ calm.port.burst.isSome = true)
    ∧ Takes .loadTableWatches (asking (record 2 [4#8]) calm) (record 2 [4#8])
    ∧ tableOfCode (argU8 (record 2 [4#8]) 4) = some .watches
    ∧ ∀ x ∈ [Retention.entering, .retained, .leaving],
        let s := asking (record 2 [1#8]) (awake.setPort { awake.port with retention := x })
        Takes .loadTableLevels s (record 2 [1#8]) ∧ s.port.retention ≠ .serving ∧ s.power.state ≠ .init
        ∧ s.port.queue = [] := by decide +kernel

/-- A byte in memory that spoils the KEYMAP page, and a THERMISTOR page in order. -/
def pages : State := awake.setMem (writeCells [] ([(0x1F84000, 8#8), (0x1F86000, 4#8)]
  ++ (List.range 8).map fun i => (0x1F85000 + 4 * i, BitVec.ofNat 8 (i + 1))))

theorem witness_TablesReplaceTheOldOnes :
    (∀ s ∈ [asking (record 2 [1#8]) awake, asking (record 2 [2#8]) pages], Awake s ∧ NoUpdates s ∧ PortQuiet s)
    ∧ Takes .loadTableLevels (asking (record 2 [1#8]) awake) (record 2 [1#8])
    ∧ Takes .loadTableKeymap (asking (record 2 [2#8]) awake) (record 2 [2#8])
    ∧ Takes .loadTableThermistor (asking (record 2 [3#8]) awake) (record 2 [3#8])
    ∧ Takes .loadTableWatches (asking (record 2 [4#8]) awake) (record 2 [4#8])
    ∧ readValue awake.mem 0x1F84000 1 ≤ 7 ∧ ¬ readValue pages.mem 0x1F84000 1 ≤ 7
    ∧ (∀ i < 7, readValue pages.mem (0x1F85000 + 4 * i) 2 < readValue pages.mem (0x1F85000 + 4 * (i + 1)) 2)
    ∧ ¬ readValue awake.mem 0x1F85000 2 < readValue awake.mem 0x1F85004 2
    ∧ ¬ readValue pages.mem 0x1F86000 1 ≤ 3 := by decide +kernel

/-! ### Slots, turns, waveforms and updates -/

/-- Slot 0 SHOWN with tag 5, slot 1 AHEAD with tag 6, slot 2 BEHIND with tag 4, slot 3 SPARE with tag 100, all READY. -/
def paged (s : State) : State := s.setSlot { s.slot with
  slots := #v[⟨.shown, true, 5, [], 0⟩, ⟨.ahead, true, 6, [], 0⟩, ⟨.behind, true, 4, [], 0⟩, ⟨.spare, true, 100, [], 0⟩] }

/-- A MARK of a slot with a content and a tag below 256. -/
def markOf (n content tag : Byte) : List Byte := record 0x10 [n, content, 0#8, 0#8, tag]

theorem witness_MarkSetsTheContent :
    (∀ r ∈ [markOf 4 0 0, markOf 0 2 0, markOf 1 1 6, markOf 1 0 0, markOf 3 1 9],
      Takes .mark (asking r awake) r ∧ RolesApart (asking r awake))
    ∧ (∀ r ∈ [markOf 1 1 7, markOf 2 1 5, markOf 1 1 6, markOf 2 1 4, markOf 0 1 5, markOf 0 0 0],
      Takes .mark (asking r (paged awake)) r ∧ RolesApart (asking r (paged awake)))
    ∧ ((awake.slotAt 1).role = .ahead ∧ (awake.slotAt 0).ready = false ∧ (1 : Fin 4).val = argU8 (markOf 1 1 6) 4
      ∧ argU8 (markOf 1 1 6) 5 = 1)
    ∧ (((paged awake).slotAt 0).ready = true ∧ ((paged awake).slotAt 1).role = .ahead
      ∧ ((paged awake).slotAt 0).tag + 1 ≠ argU32 (markOf 1 1 7) 8
      ∧ ((paged awake).slotAt 0).tag + 1 = argU32 (markOf 1 1 6) 8 ∧ (paged awake).slot.forward = [])
    ∧ ((awake.slotAt 3).role = .spare ∧ (3 : Fin 4).val = argU8 (markOf 3 1 9) 4)
    ∧ (((paged awake).slotAt 0).role = .shown ∧ ((paged awake).slotAt 2).role = .behind
      ∧ (0 : Fin 4).val = argU8 (markOf 0 1 5) 4 ∧ argU8 (markOf 0 1 5) 5 ≤ 1) := by decide +kernel

/-- A MARK of AHEAD or BEHIND with the tag that fits, while two turns of its direction wait; refused in three states. -/
theorem witness_MarkSetsTheContent_released : ∀ d ∈ [Dir.forward, .back],
    let n : Fin 4 := match d with | .forward => 1 | .back => 2
    let r := match d with | .forward => markOf 1 1 6 | .back => markOf 2 1 4
    let turn : PendingTurn := ⟨.key, 3#32, 0⟩
    let pend := fun s : State => asking r (s.setSlot (s.slot.setList d [turn, turn]))
    ∀ s ∈ [pend (loaded (paged awake)), pend (paged awake), pend (railIn .fault none false (loaded (paged awake))),
        pend ((paged awake).setPower { awake.power with battery := .critical })],
      Takes .mark s r ∧ RolesApart s ∧ RingsBounded s ∧ n.val = argU8 r 4 ∧ argU8 r 5 = 1 ∧ (s.slotAt n).role = d.target
      ∧ s.slot.list d = [turn, turn] ∧ (s.slotAt (s.slot.withRole .shown)).ready = true
      ∧ ((d = .forward ∧ argU32 r 8 = (s.slotAt (s.slot.withRole .shown)).tag + 1)
        ∨ (d = .back ∧ argU32 r 8 + 1 = (s.slotAt (s.slot.withRole .shown)).tag)) ∧ Steady s := by decide +kernel

theorem witness_TurnIsCarriedOut : ∀ d ∈ [Dir.forward, Dir.back],
    let r := record 0x11 [BitVec.ofNat 8 d.code]
    let s := asking r (loaded (paged awake))
    Takes .turn s r ∧ RolesApart s ∧ RingsBounded s ∧ argU8 r 4 = d.code ∧ s.power.battery ≠ .critical
    ∧ s.power.state = .active ∧ s.wave.setState = .loaded ∧ s.rail.state = .off ∧ s.slot.list d.opposite = []
    ∧ (s.slotAt (s.slot.withRole d.target)).ready = true := by decide +kernel

/-- A set LOADED, with n pending turns forward or back. -/
def waiting (d : Dir) (n : Nat) : State :=
  let s := during .copy (loaded awake)
  s.setSlot (s.slot.setList d (List.replicate n ⟨.request, 0#32, 7⟩))

theorem witness_TurnWaitsOrIsRefused :
    let r := record 0x11 [0#8]
    let takes := fun s => Takes .turn (asking r s) r
    argU8 r 4 = Dir.forward.code ∧ argU8 (record 0x11 [1#8]) 4 = Dir.back.code
    ∧ (Takes .turn (asking (record 0x11 [2#8]) awake) (record 0x11 [2#8]) ∧ 1 < argU8 (record 0x11 [2#8]) 4)
    ∧ takes (awake.setPower { awake.power with battery := .critical })
    ∧ (takes (inState (.departing .drain) awake) ∧ drainOrDeep (.departing .drain) = true)
    ∧ (takes awake ∧ awake.wave.setState ≠ .loaded) ∧ (takes (railIn .fault none false (loaded awake)))
    ∧ (takes (waiting .back 1) ∧ Steady (waiting .back 1) ∧ 0 < ((waiting .back 1).slot.list .back).length)
    ∧ (takes (waiting .forward 7) ∧ ((waiting .forward 7).slot.list .forward).length < 8)
    ∧ (takes (waiting .forward 8) ∧ 8 ≤ ((waiting .forward 8).slot.list .forward).length)
    ∧ ((waiting .forward 8).slotAt ((waiting .forward 8).slot.withRole .ahead)).ready = false := by decide +kernel

theorem witness_JumpAndCancelTurns :
    let r := record 0x12 [3#8]
    let takes := fun s => Takes .jump (asking r s) r ∧ RolesApart (asking r s)
    (3 : Fin 4).val = argU8 r 4
    ∧ (Takes .jump (asking (record 0x12 [4#8]) awake) (record 0x12 [4#8]) ∧ 3 < argU8 (record 0x12 [4#8]) 4)
    ∧ takes (awake.setPower { awake.power with battery := .critical }) ∧ takes awake
    ∧ takes (railIn .fault none false (loaded awake))
    ∧ (takes (loaded awake) ∧ (awake.slotAt 3).role = .spare ∧ (awake.slotAt 3).ready = false)
    ∧ (takes (loaded (paged awake)) ∧ ((paged awake).slotAt 3).ready = true)
    ∧ (Takes .jump (asking (record 0x12 [0#8]) (loaded awake)) (record 0x12 [0#8]) ∧ (awake.slotAt 0).role ≠ .spare)
    ∧ Takes .cancelTurns (asking (record 0x13 []) (waiting .forward 1)) (record 0x13 []) := by decide +kernel

theorem witness_WaveformSetIsLoadedAndUnloaded :
    Takes .loadWaveforms (asking (record 0x20 []) awake) (record 0x20 [])
    ∧ Takes .unloadWaveforms (asking (record 0x21 []) awake) (record 0x21 [])
    ∧ Takes .loadWaveforms (asking (record 0x20 []) (withLane .latch awake)) (record 0x20 [])
    ∧ Takes .unloadWaveforms (asking (record 0x21 []) (withLane .latch awake)) (record 0x21 [])
    ∧ (withLane .latch awake).lane 0 ≠ none ∧ (0 : Fin 16) ∈ laneIds
    ∧ awake.wave.setState = .unloaded ∧ awake.drive.queue = [] ∧ ∀ i ∈ laneIds, awake.lane i = none := by decide +kernel

/-- A PRESENT of a mode, a kind and a rectangle of one corner. -/
def presentOf (mode kind tx ty : Byte) : List Byte := record 0x28 [mode, kind, tx, ty, tx, ty]

/-- A set LOADED and a shown page with a dirty tile. -/
def dirtied : State := (loaded (paged awake)).setSlotAt 0 ⟨.shown, true, 5, [70], 0⟩

def presenting (r : List Byte) (s : State) : Prop := Takes .present (asking r s) r ∧ (asking r s).drive.queue = []

theorem witness_PresentIsAdmitted_early :
    (presenting (presentOf 0 3 0 0) awake ∧ 2 < argU8 (presentOf 0 3 0 0) 5)
    ∧ (presenting (presentOf 0 2 58 43) awake ∧ reqTag (presentOf 0 2 58 43) ≠ 0 ∧ awake.wave.setState ≠ .loaded)
    ∧ presenting (presentOf 0 2 58 43) (railIn .fault none false (loaded awake))
    ∧ presenting (presentOf 0 2 58 43) (inState (.departing .drain) (loaded awake)) := by
  unfold presenting; decide +kernel
theorem witness_PresentIsAdmitted_late :
    (presenting (presentOf 3 2 58 43) (loaded awake) ∧ (loaded awake).wave.modeCount ≤ 3)
    ∧ (presenting (presentOf 0 2 59 43) (loaded awake) ∧ (awake.drive.settings.width + 31) / 32 = 59)
    ∧ (presenting (presentOf 0 2 58 44) (loaded awake) ∧ (awake.drive.settings.height + 31) / 32 = 44)
    ∧ (presenting (presentOf 0 2 58 43) (loaded awake) ∧ (awake.slotAt 0).ready = false) := by
  unfold presenting; decide +kernel
theorem witness_PresentIsAdmitted_taken :
    (presenting (presentOf 0 0 0 0) (loaded (paged awake)) ∧ ((paged awake).slotAt 0).dirty = [])
    ∧ ((∀ kind ∈ [0#8, 1#8, 2#8], presenting (presentOf 2 kind 58 43) dirtied) ∧ (dirtied.slotAt 0).dirty ≠ [])
    ∧ upd.rect.edgeTouches ⟨1, 0, 1, 0⟩ = true ∧ upd.tags.length < 4 := by
  unfold presenting; decide +kernel

/-- One record with tag 9 waits. -/
def queued : State := awake.setDrive { awake.drive with queue := [upd] }

theorem witness_CancelRemovesTheTag :
    (∀ s ∈ [awake, queued, withLane .latch awake],
      Takes .cancel (asking (record 0x29 [9#8]) s) (record 0x29 [9#8]))
    ∧ Takes .cancel (asking (record 0x29 []) awake) (record 0x29 []) ∧ argU16 (record 0x29 []) 4 = 0
    ∧ argU16 (record 0x29 [9#8]) 4 = 9 ∧ (queued.drive.queue.map fun u => u.tags.count 9).sum = 1
    ∧ (withLane .latch awake).lane 0 = some (lane .latch) ∧ 9 ∈ (lane .latch).upd.tags := by decide +kernel

/-- A SET-PANEL with a height and else the values of reset. -/
def panelOf (height : Nat) : List Byte :=
  record 0x2A (leBytes 2 1872 ++ leBytes 2 height ++ [6#8, 0#8] ++ leBytes 2 60 ++ leBytes 2 1500)

/-- A part with a height that a SET-PANEL can give. -/
def tall (s : State) : State := s.setDrive { s.drive with settings := { s.drive.settings with height := 1400 } }

theorem witness_PanelSettingsAreTaken :
    (∀ s ∈ [tall awake, tall queued], ∀ r ∈ [panelOf 1400, panelOf 1407, panelOf 1408], Takes .setPanel (asking r s) r)
    ∧ (∀ r ∈ [panelOf 1400, panelOf 1407], max 256 (min 1536 (argU16 r 6 / 8 * 8)) = (tall awake).drive.settings.height)
    ∧ max 256 (min 1536 (argU16 (panelOf 1408) 6 / 8 * 8)) ≠ (tall awake).drive.settings.height
    ∧ NoUpdates (tall awake) ∧ ¬ NoUpdates (tall queued) := by decide +kernel

/-! ### Frames and rails -/

/-- Rails ON with a driving lane of one tile at a frame of 33, some of its 33 bursts granted. -/
def driving (frame fetched : Nat) (completing : Bool) : State :=
  during .recordWrite (loaded ((railIn .on none true awake).setLane 0
    (some { lane .driving with frames := 33, frame := frame, fetched := fetched, completing := completing })))

/-- Ready, late, after its last frame, completing, and a lane whose latch has just ended. -/
theorem witness_FrameBoundaryDrivesTheLanes :
    (∀ s ∈ [driving 32 33 false, driving 32 32 false, driving 33 0 false, driving 33 0 true,
      (driving 0 33 false).setLane 0 (some (lane .waitRails)), calm], Calm s)
    ∧ (driving 32 33 false).rail.state = .on ∧ calm.rail.state ≠ .on
    ∧ min (32 * (upd.rect.ty1 + 1)) (driving 32 33 false).drive.settings.height - 32 * upd.rect.ty0 + 1 = 33 := by
  decide +kernel

theorem witness_RailsRiseAndFall (st : RailState) (timer : Option Time) (good : Bool) :
    Calm (railIn st timer good calm) ∧ (railIn st timer good calm).rail.state = st :=
  ⟨(by decide : Calm calm), rfl⟩

theorem witness_RailFaultAbortsTheLanes :
    (∀ st ∈ [RailState.rising, .on], Calm (withLane .driving (railIn st (some 40#32) false calm)))
    ∧ (∀ st ∈ [RailState.off, .fault], Takes .clearRailFault (asking (record 0x30 []) (railIn st none true calm)) (record 0x30 [])
      ∧ Calm (asking (record 0x30 []) (railIn st none true calm)))
    ∧ calm.power.release ≠ some .deep ∧ activeCount calm = 0 := by decide +kernel

/-! ### Keys and the scroll ring -/

def held : KeyUnit := { pressing with gesture := .held, repeatTimer := some 400#32 }
def letGo (g : GestureState) : KeyUnit := { pressing with raw := false, debounced := true, gesture := g }

theorem witness_KeysAreFilteredAndTimed :
    (∀ x ∈ [pressing, held, letGo .held, letGo .wakeHeld, letGo .released, letGo .pressed, KeyUnit.reset true],
      Steady (keyIn x awake))
    ∧ Steady (inState .deep awake) ∧ Key.fwd ≠ .power ∧ (KeyUnit.reset true).timer = none
    ∧ pressing.timer ≠ none ∧ (pressing.raw = true ∧ pressing.gesture = .released) ∧ held.gesture ≠ .released
    ∧ (letGo .held).raw = false ∧ (keyIn held awake).input.keys.get .power = held := by decide +kernel

theorem witness_GesturesHandTheirActions :
    (Steady (keyIn (letGo .pressed) awake) ∧ (letGo .pressed).timer ≠ none ∧ (letGo .pressed).raw = false)
    ∧ (let x := { pressing with gesture := .pressed, holdTimer := some 700#32 }
       Steady (keyIn x awake) ∧ x.gesture = .pressed ∧ x.holdTimer ≠ none)
    ∧ Steady (keyIn held awake) ∧ held.gesture = .held ∧ held.repeatTimer ≠ none
    ∧ (keyIn { held with repeatIndex := 65535 } awake).input.keys.power.repeatIndex = 65535
    ∧ awake.input.keyMap.toList.getD (3 * keyCode .power + Gesture.tap.code) .none = .sleepRequest
    ∧ awake.input.keyMap.toList.getD (3 * keyCode .power + Gesture.hold.code) .none = .notify
    ∧ awake.input.keyMap.toList.getD (3 * keyCode .power + Gesture.repeat.code) .none = .none
    ∧ awake.input.keyMap.toList.getD (3 * keyCode .light + Gesture.tap.code) .none = .lightToggle
    ∧ awake.input.keyMap.toList.getD (3 * keyCode .light + Gesture.repeat.code) .none = .lightUp
    ∧ awake.input.keyMap.toList.getD (3 * keyCode .fwd + Gesture.tap.code) .none = .turnFwd := by decide +kernel

theorem witness_RingStepsAreCounted :
    Awake awake ∧ RingsBounded awake ∧ (∀ i : Fin 8, awake.watches[i].mode = .off)
    ∧ awake.input.phaseA.timer = none ∧ ({ awake.input.phaseA with timer := some 2#32 } : PhaseUnit).timer ≠ none
    ∧ Steady awake ∧ Steady (inState .deep awake) ∧ (inState .deep awake).power.state = .deep
    ∧ Takes .wheelSnapshot (asking (record 0x39 []) awake) (record 0x39 []) := by decide +kernel

/-! ### Light, sampler, settings, downloads and power -/

theorem witness_LightTicksAndFramesStart :
    Calm calm ∧ calm.light.running = true ∧ calm.light.ramping = false
    ∧ Calm (calm.setLight { calm.light with ramping := true })
    ∧ Steady (awake.setLight { awake.light with running := false }) := by decide

theorem witness_SetLightComposesTheTargets : ∀ r ∈ [record 0x40 [63#8, 16#8, 1#8], record 0x40 [64#8, 17#8, 2#8]],
    Takes .setLight (asking r calm) r ∧ Calm (asking r calm) := by decide

theorem witness_SettingsAreTaken :
    (∀ r ∈ [record 0x38 [], record 0x38 [64#8, 15#8, 200#8, 0#8, 0#8, 0#8, 2#8, 64#8],
        record 0x38 [0#8, 0#8, 0#8, 0#8, 0#8, 0#8, 3#8]], Takes .setInput (asking r awake) r)
    ∧ CountMode.detent.code = 2
    ∧ Takes .setLightTuning (asking (record 0x41 []) awake) (record 0x41 [])
    ∧ Takes .setSampler (asking (record 0x48 []) awake) (record 0x48 [])
    ∧ Takes .setTimers (asking (record 0x59 []) calm) (record 0x59 [])
    ∧ calm.power.state = .active ∧ Calm (asking (record 0x59 []) calm) := by decide

/-- A conversion of a channel runs. -/
def converting (c : Channel) (s : State) : State :=
  s.setSampler { s.sampler with converter := .converting c .periodic 0#32 50 }

/-- No channel is due, and AMB has a due time. -/
def sampled (s : State) : State :=
  let quiet : ChannelUnit := { ChannelUnit.reset 1000 with due := false, nextDue := some 5#32 }
  s.setSampler { s.sampler with chans := ⟨quiet, quiet, quiet⟩ }

theorem witness_ConversionsAreTaken :
    (∀ c ∈ [Channel.batt, .therm, .amb], Steady (converting c awake)
      ∧ (converting c awake).sampler.converter = .converting c .periodic 0#32 50
      ∧ ∀ i : Fin 8, awake.watches[i].mode = .off)
    ∧ (Steady awake ∧ awake.sampler.converter = .idle ∧ awake.sampler.chans.amb.nextDue = none)
    ∧ (Calm (sampled (converting .amb calm)) ∧ (sampled calm).sampler.chans.amb.nextDue ≠ none)
    ∧ (Calm (sampled calm) ∧ (sampled calm).sampler.converter = .idle ∧ (sampled calm).sampler.demands = []
      ∧ (sampled calm).sampler.chans.batt.due = false ∧ (sampled calm).sampler.chans.therm.due = false)
    ∧ (∀ r ∈ [record 0x49 [2#8], record 0x49 [3#8]], Takes .sampleNow (asking r (converting .batt calm)) r
      ∧ Calm (asking r (converting .batt calm)))
    ∧ channelOfCode (argU8 (record 0x49 [2#8]) 4) = some .amb ∧ 2 < argU8 (record 0x49 [3#8]) 4 := by decide +kernel

/-- An OPEN-DOWNLOAD of chunks of 4096 bytes at an offset. -/
def opening (tag count offset : Nat) : List Byte :=
  record 0x50 (leBytes 4 tag ++ leBytes 4 4096 ++ leBytes 2 count ++ [0#8, 0#8] ++ leBytes 4 offset)

/-- Every entry OPEN, with tags 1 to 4. -/
def fullTable : State := fourIds.foldl (fun s n =>
  s.setDownload n ⟨.openState, n.val + 1, 4096, 1, 4096 * n.val, [], 0, 0, 0, 0, []⟩) awake

theorem witness_DownloadsAreOpenedAndClosed :
    (∀ r ∈ [opening 0 1 0, opening 8 2049 0, opening 8 2048 0, opening 8 1 4096, opening 8 1 8192, opening 7 1 8192],
      Takes .openDownload (asking r guarding) r ∧ Steady (asking r guarding))
    ∧ (argU32 (opening 8 1 8192) 4 = 8 ∧ argU32 (opening 8 1 8192) 8 = 4096 ∧ argU16 (opening 8 1 8192) 12 = 1
      ∧ argU32 (opening 8 1 8192) 16 = 8192)
    ∧ (Takes .openDownload (asking (opening 8 1 32768) fullTable) (opening 8 1 32768)
      ∧ ∀ e, (fullTable.download e).state ≠ .free)
    ∧ (∀ r ∈ [record 0x51 [], record 0x51 [7#8], record 0x51 [8#8]], Takes .closeDownload (asking r guarding) r)
    ∧ (guarding.download 0).tag = 7 ∧ ∀ k, (guarding.download k).state ≠ .free → k = 0 := by decide +kernel

/-- A CLOSE with the entry's chunk in CHECK, over a busy port, and items of it and of another entry in the copy buffer. -/
theorem witness_DownloadsAreOpenedAndClosed_items :
    let s := during .recordWrite (guarding.setIntake { guarding.intake with
      parser := .check chunk [1#8]
      buffer := [.payload 0 0x0C00000 1#8, .group (group .copy 5#32), .payload 1 0x0C02000 2#8] })
    Takes .closeDownload (asking (record 0x51 [7#8]) s) (record 0x51 [7#8]) ∧ Steady s ∧ chunk.entry = 0
    ∧ s.port.burst.isSome = true
    ∧ (s.intake.buffer.filter fun m => !m.ofEntry 0) = [.payload 1 0x0C02000 2#8] := by decide +kernel

/-- SET-POWER's three values in four power states, a value outside the list, and a RESTART over a busy port with a lane active. -/
theorem witness_PowerRequestsMoveThePart :
    (∀ st ∈ [PowerState.active, .doze, .departing .grace, .departing .drain],
      Takes .setPowerActive (asking (record 0x58 [0#8]) (inState st awake)) (record 0x58 [0#8])
      ∧ Takes .setPowerDoze (asking (record 0x58 [1#8]) (inState st awake)) (record 0x58 [1#8])
      ∧ Takes .setPowerDeep (asking (record 0x58 [2#8]) (inState st awake)) (record 0x58 [2#8]))
    ∧ (Takes .setPowerActive (asking (record 0x58 [3#8]) awake) (record 0x58 [3#8]) ∧ argU8 (record 0x58 [3#8]) 4 ≠ 0)
    ∧ (Takes .restart (asking (record 0x5A []) (withLane .driving calm)) (record 0x5A [])
      ∧ 0 < activeCount (withLane .driving calm) ∧ calm.port.burst.isSome = true)
    ∧ Takes .restart (asking (record 0x5A []) calm) (record 0x5A []) ∧ activeCount calm = 0 := by decide +kernel

def timed (s : State) : State :=
  s.setPower { s.power with napTimer := some 0#32, deepTimer := some 0#32, graceTimer := some 0#32 }

theorem witness_PowerTimersExpire :
    (Steady awake ∧ awake.power.napTimer = none ∧ awake.power.deepTimer = none ∧ awake.power.graceTimer = none)
    ∧ (Calm (timed calm) ∧ (timed calm).power.napTimer ≠ none)
    ∧ (let s := timed (inState .doze awake)
       s.power.state = .doze ∧ NoUpdates s ∧ s.rail.state = .off ∧ s.light.coolDuty = 0 ∧ s.light.warmDuty = 0
       ∧ s.intake.parser.inParse = false ∧ s.wave.setState ≠ .loading ∧ s.request = ⟨[], none⟩)
    ∧ 0 < (timed awake).power.grace ∧ ({ (timed awake).power with grace := 0 } : Power).grace = 0
    ∧ (timed (inState (.departing .grace) awake)).power.graceTimer ≠ none := by decide +kernel

end Sys2Proof.Tests
end

section
/-! The end of a command leaves the notice value right (R33). Every decision either leaves the report unit alone, which
its `_report` equation says, or ends in a recompute; only a granted entry write changes a ring without one, and it
touches nothing that the notice value reads. -/

namespace Sys2Proof.Machine

/-! ## What the notice value reads -/

/-- R33: the notice value depends on the rings only through which sources are pending. -/
theorem noticeOf_congr {u v : ReportUnit} (hs : u.stack = v.stack)
    (hp : ∀ i, sourcePending u.rings i = sourcePending v.rings i) : noticeOf u = noticeOf v := by
  unfold noticeOf; simp only [hs, hp]

@[simp] theorem Rings.get_set_same (r : Rings) (i : RingId) (x : Ring) : (r.set i x).get i = x := by cases i <;> rfl

theorem Rings.get_set_other (r : Rings) {i k : RingId} (x : Ring) (h : k ≠ i) : (r.set i x).get k = r.get k := by
  cases i <;> cases k <;> simp [Rings.get, Rings.set] at h ⊢

@[simp] theorem State.setRing_ring_same (s : State) (i : RingId) (x : Ring) : (s.setRing i x).ring i = x :=
  Rings.get_set_same _ i x

theorem State.setRing_ring_other (s : State) {i k : RingId} (x : Ring) (h : k ≠ i) :
    (s.setRing i x).ring k = s.ring k := Rings.get_set_other _ x h

/-- A ring that is as enabled and as unread as before leaves the notice value right. -/
theorem NoticeRight.setRing {s : State} {i : RingId} {x : Ring} (h : NoticeRight s)
    (he : x.enabled = (s.ring i).enabled) (hu : x.unread = (s.ring i).unread) : NoticeRight (s.setRing i x) := by
  refine Eq.trans h (noticeOf_congr rfl fun k => ?_)
  by_cases hk : k = i
  · subst hk
    show sourcePending s.report.rings k = sourcePending (s.report.rings.set k x) k
    unfold sourcePending; rw [Rings.get_set_same, he, hu]; rfl
  · exact congrArg (fun r : Ring => r.enabled && decide (0 < r.unread)) (State.setRing_ring_other s x hk).symm

theorem NoticeRight.of_report {s t : State} (h : NoticeRight s) (e : t.report = s.report) : NoticeRight t := by
  unfold NoticeRight; rw [e]; exact h

/-! ## Decisions that leave the report unit alone -/

@[simp] theorem reportActivity_report (s : State) : (reportActivity s).report = s.report := rfl

@[simp] theorem changePower_report (s : State) : (changePower s).report = s.report := by simp [changePower]

@[simp] theorem changeLight_report (s : State) : (changeLight s).report = s.report := by simp [changeLight]

@[simp] theorem powerSet_report (p : Power) (s : State) : (powerSet p s).report = s.report := by simp [powerSet]

@[simp] theorem recompute_report (b : Bool) (s : State) : (recompute b s).report = s.report := by
  unfold recompute; simp only []; split <;> split <;> simp

@[simp] theorem stopLight_report (s : State) : (stopLight s).report = s.report := rfl

@[simp] theorem railTo_report (r : RailState) (t : Option Time) (s : State) : (railTo r t s).report = s.report := by
  simp [railTo]

@[simp] theorem enterOn_report (s : State) : (enterOn s).report = s.report := by simp [enterOn]

@[simp] theorem enterRising_report (s : State) : (enterRising s).report = s.report := by
  unfold enterRising; simp only []; split <;> simp

@[simp] theorem enterOff_report (s : State) : (enterOff s).report = s.report := by
  unfold enterOff; simp only []; split <;> simp

@[simp] theorem enterFalling_report (s : State) : (enterFalling s).report = s.report := by
  unfold enterFalling; simp only []; split <;> simp

@[simp] theorem enterHold_report (s : State) : (enterHold s).report = s.report := by
  unfold enterHold; simp only []; split <;> simp

@[simp] theorem requestRails_report (s : State) : (requestRails s).report = s.report := by
  unfold requestRails; split <;> simp

@[simp] theorem releaseRails_report (s : State) : (releaseRails s).report = s.report := by
  unfold releaseRails; split <;> simp

@[simp] theorem requestReleaseNap_report (s : State) : (requestReleaseNap s).report = s.report := by
  unfold requestReleaseNap releaseFromHold; split <;> simp

@[simp] theorem setLane_report (i : Fin 16) (l : Option Lane) (s : State) : (s.setLane i l).report = s.report := rfl

@[simp] theorem enterLatch_report (i : Fin 16) (l : Lane) (b : Nat) (f : UpdateFlags) (s : State) :
    (enterLatch i l b f s).report = s.report := by
  unfold enterLatch; simp only [changeRecord_report, setLane_report]; split
  · rfl
  · simp [setWaveShown]

@[simp] theorem laneWithTemp_report (i : Fin 16) (l : Lane) (t : Int) (fault : Bool) (s : State) :
    (laneWithTemp i l t fault s).report = s.report := by simp [laneWithTemp]

@[simp] theorem startLane_report (i : Fin 16) (u : UpdateRecord) (s : State) : (startLane i u s).report = s.report := by
  unfold startLane; simp only []; split
  · simp
  · split <;> simp

@[simp] theorem startPass_report (todo kept : List UpdateRecord) (s : State) :
    (startPass todo kept s).report = s.report := by
  induction todo generalizing kept s with
  | nil => rfl
  | cons u rest ih =>
    unfold startPass; split
    · rw [ih, startLane_report]
    · rw [ih]

@[simp] theorem startRule_report (s : State) : (startRule s).report = s.report := by
  unfold startRule; split <;> simp

@[simp] theorem chooseConversion_report (s : State) : (chooseConversion s).report = s.report := by
  unfold chooseConversion; split
  · split
    · rfl
    · split <;> rfl
  · rfl
  · rfl

@[simp] theorem askRetention_report (s : State) : (askRetention s).report = s.report := by
  unfold askRetention; split <;> rfl

@[simp] theorem enterNap_report (s : State) : (enterNap s).report = s.report := by simp [enterNap]

@[simp] theorem napStep_report (s : State) : (napStep s).report = s.report := by
  unfold napStep; simp only []; split
  · split <;> split <;> simp
  · rfl

@[simp] theorem changeIntake_report (s : State) : (changeIntake s).report = s.report := by simp [changeIntake]

@[simp] theorem dropInFlight_report (s : State) : (dropInFlight s).report = s.report := by
  unfold dropInFlight; split <;> (try split) <;> rfl

@[simp] theorem deepIntake_report (s : State) : (deepIntake s).report = s.report := by simp [deepIntake]

@[simp] theorem emptyTurns_report (s : State) : (emptyTurns s).report = s.report := by
  unfold emptyTurns changeSlots; split <;> simp

@[simp] theorem stopInput_report (s : State) : (stopInput s).report = s.report := rfl

@[simp] theorem stopSampler_report (s : State) : (stopSampler s).report = s.report := rfl

@[simp] theorem enterDeep_report (s : State) : (enterDeep s).report = s.report := by simp [enterDeep]

@[simp] theorem drainStep_report (s : State) : (drainStep s).report = s.report := by
  unfold drainStep; split <;> simp

@[simp] theorem examineHolds_report (s : State) : (examineHolds s).report = s.report := by
  unfold examineHolds; split <;> rfl

@[simp] theorem placeClaims_report (s : State) : (placeClaims s).report = s.report := rfl

@[simp] theorem loadPage_report (t : TableId) (page : List Byte) (s : State) :
    (loadPage t page s).1.report = s.report := by
  cases t with
  | levels => simp [loadPage, loadLevels]
  | keymap => unfold loadPage loadKeymap; simp only []; split <;> rfl
  | thermistor => unfold loadPage loadThermistor; simp only []; split <;> simp [changeSamples]
  | watches => unfold loadPage loadWatches; simp only []; split <;> simp

@[simp] theorem startBurst_report (k : BurstKind) (w : List Host.Cell) (s : State) :
    (startBurst k w s).report = s.report := rfl

@[simp] theorem changeSource_report (n : Fin 4) (up : Bool) (s : State) :
    (changeSource n up s).report = s.report := by
  unfold changeSource; rw [changeRecord_report]; rfl

@[simp] theorem grantLatch_report (i : Fin 16) (s : State) : (grantLatch i s).report = s.report := by
  unfold grantLatch; simp only []; split
  · rfl
  · split
    · rfl
    · rfl
    · split <;> simp

@[simp] theorem grantLow_report (s : State) : (grantLow s).report = s.report := by
  unfold grantLow; split
  · rfl
  · split <;> simp

@[simp] theorem grantLink_report (s : State) : (grantLink s).report = s.report := by
  unfold grantLink; split <;> rfl

@[simp] theorem grantIntake_report (s : State) : (grantIntake s).report = s.report := rfl

/-! ## Decisions that produce an entry or grant one -/

/-- R33: the notice follows every entry produced. -/
theorem produce_right (i : RingId) (body : EntryBody) (tag : Nat) (s : State) : NoticeRight (produce i body tag s) :=
  recomputeNotice_right _

theorem reply_right (x : Reply) (s : State) (h : NoticeRight s) : NoticeRight (reply x s) := by
  unfold reply; split
  · exact h
  · exact (produce_right _ _ _ s).of_report rfl

theorem endRecord_right (o : UpdateOutcome) (s : State) (u : UpdateRecord) (h : NoticeRight s) :
    NoticeRight (endRecord o s u) := by
  have keep : ∀ (tags : List Nat) (t : State), NoticeRight t →
      NoticeRight (tags.foldl (fun t' tag => produce .display (updateEndBody (u.ended s.time) o) tag t') t) := by
    intro tags
    induction tags with
    | nil => exact fun _ ht => ht
    | cons tag rest ih => exact fun t _ => ih _ (produce_right _ _ tag t)
  exact keep _ _ (h.of_report (changeSource_report _ _ s))

theorem completeLane_right (i : Fin 16) (l : Lane) (s : State) (h : NoticeRight s) :
    NoticeRight (completeLane i l s) := by
  unfold completeLane; simp only []
  refine NoticeRight.of_report (endRecord_right _ _ _ (h.of_report ?_)) (releaseRails_report _)
  split <;> simp

theorem grantFrame_right (i : Fin 16) (s : State) (h : NoticeRight s) : NoticeRight (grantFrame i s) := by
  unfold grantFrame; simp only []; split
  · exact h
  · split
    · split
      · exact completeLane_right _ _ _ (h.of_report rfl)
      · exact h.of_report rfl
    · exact h.of_report rfl

/-- R16: a granted entry write moves only the written count, which the notice value does not read. -/
theorem grantEntry_right (i : RingId) (place : Nat) (s : State) (h : NoticeRight s) :
    NoticeRight (grantEntry i place s) := by
  have kept : NoticeRight (s.setRing i { s.ring i with
      ungranted := (s.ring i).ungranted.filter fun p => p.toNat % i.capacity ≠ place }) := h.setRing rfl rfl
  unfold grantEntry; simp only []; split
  · exact kept
  · exact kept.of_report (changeRecord_report _ _)

theorem endInit_right (s : State) (h : NoticeRight s) : NoticeRight (endInit s) :=
  reply_right _ _ (h.of_report (powerSet_report _ s))

theorem writeGranted_right (r : RecordId) (s : State) (h : NoticeRight s) : NoticeRight (writeGranted r s) := by
  have initWrite : ∀ t : State, NoticeRight t → NoticeRight
      (if t.power.state = .init then
        (let t2 := t.setPort { t.port with initLeft := t.port.initLeft - 1 }
         if t2.port.initLeft = 0 then endInit t2 else t2) else t) := by
    intro t ht
    split
    · simp only []; split
      · exact endInit_right _ (ht.of_report rfl)
      · exact ht.of_report rfl
    · exact ht
  unfold writeGranted; simp only []
  cases r with
  | entryPlace i place => exact initWrite _ (grantEntry_right i place s h)
  | _ => exact initWrite _ h

theorem grantRecord_right (s : State) (h : NoticeRight s) : NoticeRight (grantRecord s) := by
  unfold grantRecord; split
  · exact h
  · exact writeGranted_right _ _ (h.of_report rfl)
  · exact reply_right _ _ (h.of_report (loadPage_report _ _ _))

theorem grant_right (c : Nat) (s : State) (h : NoticeRight s) : NoticeRight (grant c s) := by
  unfold grant; split
  · unfold grantHigh; split
    · exact grantFrame_right _ s h
    · exact h
  · exact h.of_report (grantIntake_report s)
  · exact h.of_report (grantIntake_report s)
  · exact h.of_report (grantLink_report s)
  · exact h.of_report (grantLow_report s)
  · exact grantRecord_right s h
  · exact h

theorem decideStep_right (s : State) (h : NoticeRight s) : NoticeRight (decideStep s) := by
  unfold decideStep; split
  · split
    · exact grant_right _ _ (h.of_report rfl)
    · exact h
  · exact h

theorem reset_right : NoticeRight State.reset := rfl

/-- R183: a restart proper empties the rings, so the value is NONE. -/
theorem restartStep_right (s : State) (h : NoticeRight s) : NoticeRight (restartStep s) := by
  unfold restartStep; split
  · exact reset_right.of_report rfl
  · exact h

theorem settle_right (s : State) (h : NoticeRight s) : NoticeRight (settle s) :=
  (restartStep_right s h).of_report (by simp [settle])

/-- R33: what ends every command leaves a right notice value right. -/
theorem finish_right (s : State) (h : NoticeRight s) : NoticeRight (finish s) :=
  settle_right _ (decideStep_right _ (settle_right s h))

end Sys2Proof.Machine
end

section
/-! Report rings (R28, R29): what an entry produced does to its ring, the other rings and the record-write queue. -/

namespace Sys2Proof.Machine

/-! ## Shared operations and the queue -/

@[simp] theorem changeRecord_ring (r : RecordId) (s : State) (k : RingId) : (changeRecord r s).ring k = s.ring k :=
  congrArg (fun u : ReportUnit => u.rings.get k) (changeRecord_report r s)

@[simp] theorem changeRecord_time (r : RecordId) (s : State) : (changeRecord r s).time = s.time := by
  unfold changeRecord; split <;> rfl

@[simp] theorem recomputeNotice_ring (s : State) (k : RingId) : (recomputeNotice s).ring k = s.ring k := by
  unfold State.ring; rw [recomputeNotice_report]

/-- R16: no change takes a waiting write out of the queue. -/
theorem changeRecord_keeps_waiting {q : QueueItem} (r : RecordId) {s : State} (h : q ∈ s.port.queue) :
    q ∈ (changeRecord r s).port.queue := by
  rcases changeRecord_cases r s with ⟨_, e⟩ | ⟨_, e⟩ <;> rw [e]
  · exact h
  · exact List.mem_append_left _ h

theorem recomputeNotice_keeps_waiting {q : QueueItem} {s : State} (h : q ∈ s.port.queue) :
    q ∈ (recomputeNotice s).port.queue := by
  unfold recomputeNotice; simp only []; split
  · exact h
  · exact changeRecord_keeps_waiting _ h

/-- R33: a right notice value makes no change. -/
theorem recomputeNotice_of_right {s : State} (h : NoticeRight s) : recomputeNotice s = s := if_pos h.symm

/-- R16: a record with a write waiting keeps its place. -/
theorem changeRecord_queue_waiting {r : RecordId} {s : State} (h : QueueItem.write r ∈ s.port.queue) :
    (changeRecord r s).port.queue = s.port.queue := by
  rcases changeRecord_cases r s with ⟨_, e⟩ | ⟨n, _⟩
  · rw [e]
  · exact absurd h n

/-- R16: a record with no write waiting takes a place at the tail. -/
theorem changeRecord_queue_new {r : RecordId} {s : State} (h : QueueItem.write r ∉ s.port.queue) :
    (changeRecord r s).port.queue = s.port.queue ++ [QueueItem.write r] := by
  rcases changeRecord_cases r s with ⟨w, _⟩ | ⟨_, e⟩
  · exact absurd w h
  · rw [e]; rfl

/-! ## Producing an entry -/

/-- R16, R28, R29, R33: an entry is placed, its place's record changes, and the notice follows. -/
theorem produce_eq (i : RingId) (body : EntryBody) (tag : Nat) (s : State) : produce i body tag s =
    recomputeNotice (changeRecord (.entryPlace i (placeEntry i.capacity (s.ring i) ⟨body, false, tag, s.time⟩).1)
      (s.withEntry i body tag)) := rfl

theorem withEntry_ring_same (i : RingId) (body : EntryBody) (tag : Nat) (s : State) :
    (s.withEntry i body tag).ring i = (placeEntry i.capacity (s.ring i) ⟨body, false, tag, s.time⟩).2 :=
  State.setRing_ring_same s i _

theorem withEntry_ring_other {i k : RingId} (body : EntryBody) (tag : Nat) (s : State) (h : k ≠ i) :
    (s.withEntry i body tag).ring k = s.ring k := State.setRing_ring_other s _ h

theorem produce_ring_same (i : RingId) (body : EntryBody) (tag : Nat) (s : State) :
    (produce i body tag s).ring i = (placeEntry i.capacity (s.ring i) ⟨body, false, tag, s.time⟩).2 := by
  rw [produce_eq, recomputeNotice_ring, changeRecord_ring, withEntry_ring_same]

theorem produce_ring_other {i k : RingId} (body : EntryBody) (tag : Nat) (s : State) (h : k ≠ i) :
    (produce i body tag s).ring k = s.ring k := by
  rw [produce_eq, recomputeNotice_ring, changeRecord_ring, withEntry_ring_other body tag s h]

/-- R16, R28, R29: the entry's place has a write waiting. -/
theorem produce_waits (i : RingId) (body : EntryBody) (tag : Nat) (s : State) :
    QueueItem.write (.entryPlace i (placeEntry i.capacity (s.ring i) ⟨body, false, tag, s.time⟩).1)
      ∈ (produce i body tag s).port.queue :=
  recomputeNotice_keeps_waiting (changeRecord_waits _ _)

/-- R28: U is counted modulo 65536, but one more entry does not bring it to the wrap. -/
theorem Ring.unread_succ (r : Ring) (h : r.unread < 65535) (places : List Entry) (pending : List Word16) :
    Ring.unread { r with places := places, produced := r.produced + 1#16, ungranted := pending } = r.unread + 1 := by
  unfold Ring.unread at *; bv_omega

theorem RingId.capacity_lt (i : RingId) : i.capacity < 65535 := by cases i <;> simp [RingId.capacity]

theorem RingId.capacity_pos (i : RingId) : 0 < i.capacity := by cases i <;> simp [RingId.capacity]

theorem RingId.mem_ringIds (i : RingId) : i ∈ ringIds := by cases i <;> simp [ringIds]

theorem produce_ring_full {i : RingId} (body : EntryBody) (tag : Nat) (s : State)
    (h : (s.ring i).unread = i.capacity) :
    (produce i body tag s).ring i = { s.ring i with
      places := (s.ring i).places.set (((s.ring i).produced - 1#16).toNat % i.capacity)
        ⟨body, true, tag, s.time⟩ } := by
  rw [produce_ring_same, placeEntry_full _ _ _ (by omega)]

/-- R29: an overrun changes one place and its write; it leaves the notice value right, so the notice does not move. -/
theorem produce_full {i : RingId} (body : EntryBody) (tag : Nat) (s : State)
    (h : (s.ring i).unread = i.capacity) (hn : NoticeRight s) :
    produce i body tag s = changeRecord (.entryPlace i (((s.ring i).produced - 1#16).toNat % i.capacity))
      (s.withEntry i body tag) := by
  have right : NoticeRight (s.withEntry i body tag) := by
    unfold State.withEntry; rw [placeEntry_full _ _ _ (by omega)]
    exact hn.setRing rfl rfl
  have place : (placeEntry i.capacity (s.ring i) ⟨body, false, tag, s.time⟩).1
      = ((s.ring i).produced - 1#16).toNat % i.capacity := by rw [placeEntry_full _ _ _ (by omega)]
  rw [produce_eq, place]
  exact recomputeNotice_of_right (right.of_report (changeRecord_report _ _))

/-! ## The statement -/

/-- R28: an entry produced into a ring with room. -/
theorem produce_into_room (i : RingId) (body : EntryBody) (tag : Nat) (s : State)
    (h : (s.ring i).unread < i.capacity) :
    ((produce i body tag s).ring i) = { s.ring i with
        places := (s.ring i).places.set ((s.ring i).produced.toNat % i.capacity) ⟨body, false, tag, s.time⟩
        produced := (s.ring i).produced + 1#16
        ungranted := (s.ring i).ungranted ++ [(s.ring i).produced] }
    ∧ QueueItem.write (.entryPlace i ((s.ring i).produced.toNat % i.capacity)) ∈ (produce i body tag s).port.queue := by
  have waits := produce_waits i body tag s
  rw [placeEntry_room _ _ _ h] at waits
  exact ⟨by rw [produce_ring_same, placeEntry_room _ _ _ h], waits⟩

/-- Settles O15: the ring with room from `placeEntry_room`, the full ring from `produce_full`, which the ring an overrun
leaves meets again. -/
theorem producedEntriesTakeTheirPlaces : Obligations.ProducedEntriesTakeTheirPlaces := by
  unfold Obligations.ProducedEntriesTakeTheirPlaces
  refine ⟨fun i body tag s room => ?_, fun i body tag s full bounded right => ?_⟩
  · obtain ⟨ring, waits⟩ := produce_into_room i body tag s room
    have grows := Ring.unread_succ (s.ring i) (room.trans i.capacity_lt)
    exact ⟨by rw [ring], by rw [ring], by rw [ring], by rw [ring, grows],
      fun k hk => produce_ring_other body tag s hk, waits, produce_right i body tag s⟩
  · intro place t
    have ring : t.ring i = { s.ring i with places := (s.ring i).places.set place ⟨body, true, tag, s.time⟩ } :=
      produce_ring_full body tag s full
    have state : t = changeRecord (.entryPlace i place) (s.withEntry i body tag) := produce_full body tag s full right
    have length : place < (s.ring i).places.length := by
      rw [(bounded i i.mem_ringIds).2]; exact Nat.mod_lt _ i.capacity_pos
    have placed : (t.ring i).places[place]? = some ⟨body, true, tag, s.time⟩ := by
      rw [ring]; exact List.getElem?_set_self length
    have time : t.time = s.time := by rw [state, changeRecord_time]; rfl
    have stillFull : (t.ring i).unread = i.capacity := by rw [ring]; exact full
    refine ⟨placed, fun k hk => ?_, by rw [ring], stillFull, fun k hk => produce_ring_other body tag s hk, ?_, ?_,
      fun body' tag' => ?_⟩
    · rw [ring]; exact List.getElem?_set_ne hk.symm
    · rw [state]; split
      case isTrue waits => exact changeRecord_queue_waiting waits
      case isFalse new => exact changeRecord_queue_new new
    · show (((t.ring i).places.getD place Entry.none).bytes) = _
      rw [List.getD_eq_getElem?_getD, placed]; rfl
    · rw [produce_ring_full body' tag' t stillFull, time, ring]
      exact congrArg (fun p : List Entry => { s.ring i with places := p }) (List.set_set _)

end Sys2Proof.Machine
end

section
/-! The host-words page (R30, R35): a word written there passes to memory, and the word its offset names acts. -/

namespace Sys2Proof.Machine

/-! ## The page's bytes -/

theorem areaOf_hostWords_iff (a : Nat) : areaOf a = .hostWords ↔ 0x1F82000 ≤ a ∧ a < 0x1F83000 := by
  unfold areaOf pageArea Config.assemblyBase Config.slotBase Config.slotSize Config.mirrorBase Config.waveBase
    Config.intakeBase Config.controlBase Config.pageSize
  simp only [ite_eq_iff, reduceCtorEq, and_false, and_true, or_false, false_or]
  omega

/-- R9, R10: the page passes every byte of a host write. -/
theorem dropOf_hostWords {a : Nat} (h : areaOf a = .hostWords) (s : State) (ok : Bool) : dropOf s ok a = none := by
  unfold dropOf; rw [h]

theorem forwardByte_hostWords {t : Txn} (h : areaOf t.here = .hostWords) (b : Byte) (s : State) :
    forwardByte b t s = ({ t with pos := t.pos + 1 }, s.setMem (writeByte s.mem t.here b)) := by
  rcases forwardByte_cases b t s with ⟨_, e⟩ | ⟨k, hk, _⟩
  · exact e
  · rw [dropOf_hostWords h] at hk; cases hk

/-- The byte after one of the page, at an even address: it lies in the page, at the next address. -/
theorem here_succ_of_even {t : Txn} (h : areaOf t.here = .hostWords) (even : t.here % 2 = 0) :
    ({ t with pos := t.pos + 1 } : Txn).here = t.here + 1 ∧ areaOf (t.here + 1) = .hostWords := by
  rw [areaOf_hostWords_iff] at h ⊢
  unfold Txn.here Config.memSize at *
  simp only []
  omega

/-- R9: both bytes of an aligned word of the page reach memory. -/
theorem forwardBytes_word {t : Txn} (h : areaOf t.here = .hostWords) (even : t.here % 2 = 0) (v : Word16) (s : State) :
    forwardBytes (leBytes 2 v.toNat) t s =
      ({ t with pos := t.pos + 2 }, s.setMem (writeCells s.mem (cellsAt t.here (leBytes 2 v.toNat)))) := by
  obtain ⟨here, area⟩ := here_succ_of_even h even
  have second : areaOf ({ t with pos := t.pos + 1 } : Txn).here = .hostWords := by rw [here]; exact area
  simp only [leBytes, forwardBytes, forwardByte_hostWords h, forwardByte_hostWords second, here]
  rfl

/-! ## The transaction goes on -/

@[simp] theorem setPhase_fixed (p : LinkPhase) (s : State) : (setPhase p s).fixed = s.fixed := rfl

/-- R13: a transaction that has dropped nothing goes on or ends without a trace in the fixed values or the rings. -/
theorem afterBytes_of_no_drop {t : Txn} (h : t.dropped = []) (s : State) :
    (afterBytes t s).fixed = s.fixed ∧ (afterBytes t s).report = s.report := by
  unfold afterBytes endTransaction; simp only [h, if_true]
  split <;> exact ⟨rfl, rfl⟩

/-! ## The word acts -/

theorem dataWrite_of_writesAt {s : State} {x : Txn} {a : Area} (h : WritesAt s x a) (kind : Area → Bool)
    (hk : kind a = true) : dataWrite s kind = some x := by
  obtain ⟨phase, write, more, area⟩ := h
  unfold dataWrite; simp [phase, write, more, area, hk]

/-- R30, R35: an aligned word of the page that the command names reaches memory and acts. -/
theorem hostWordWrite_acts {s : State} {x : Txn} (h : WritesAt s x .hostWords) (even : x.here % 2 = 0) (v : Word16)
    {act : HostWord → Option (State → State)} {f : State → State}
    (hf : act (hostWordOf (x.here - Config.hostWordsPage)) = some f) :
    hostWordWrite v act s = afterBytes { x with pos := x.pos + 2 }
      (f (s.setMem (writeCells s.mem (cellsAt x.here (leBytes 2 v.toNat))))) := by
  have data := dataWrite_of_writesAt h (fun a => decide (a = .hostWords)) rfl
  unfold hostWordWrite
  simp only [data, hf, forwardBytes_word h.2.2.2 even]

/-- R184: a ring's consumer word. -/
@[simp] theorem hostWordOf_consumer (i : RingId) : hostWordOf (2 * (i.id - 1)) = .consumer i := by cases i <;> rfl

/-- R184: past the consumer words and apart from the notice-done word. -/
theorem hostWordOf_other {o : Nat} (h : 12 ≤ o) (h' : o ≠ 16) : hostWordOf o = .other := by
  unfold hostWordOf Config.noticeDoneOffset; rw [if_neg h', if_neg (by omega)]

theorem exec_consumerWordWrite (v : Word16) (s : State) :
    exec (.consumerWordWrite v) s = .next (finish (hostWordWrite v (actConsumer v) s)) := rfl

theorem exec_hostWordsOtherWrite (v : Word16) (s : State) :
    exec (.hostWordsOtherWrite v) s = .next (finish (hostWordWrite v actOther s)) := rfl

/-- What a command of the page leaves: the fixed values of its word's action, and a right notice value. -/
theorem hostWordCommand_leaves {i : Instr} {s : State} {x : Txn} {v : Word16} {act : HostWord → Option (State → State)}
    {f : State → State} (run : exec i s = .next (finish (hostWordWrite v act s))) (writes : WritesAt s x .hostWords)
    (clean : x.dropped = []) (even : x.here % 2 = 0)
    (named : act (hostWordOf (x.here - Config.hostWordsPage)) = some f)
    (noRestart : (f (s.setMem (writeCells s.mem (cellsAt x.here (leBytes 2 v.toNat))))).power.restarting = false) :
    ∃ t, exec i s = .next t ∧ t.fixed = (f (s.setMem (writeCells s.mem (cellsAt x.here (leBytes 2 v.toNat))))).fixed
      ∧ (NoticeRight (f (s.setMem (writeCells s.mem (cellsAt x.here (leBytes 2 v.toNat))))) → NoticeRight t) := by
  obtain ⟨fixed, report⟩ := afterBytes_of_no_drop (t := { x with pos := x.pos + 2 }) clean
    (f (s.setMem (writeCells s.mem (cellsAt x.here (leBytes 2 v.toNat)))))
  have restarting := (congrArg Fixed.restarting fixed).trans noRestart
  rw [hostWordWrite_acts writes even v named] at run
  exact ⟨_, run, (finish_fixed _ restarting).trans fixed, fun h => finish_right _ (h.of_report report)⟩

/-! ## The statement -/

/-- R30: a ring's consumer word moves the ring's C, and the notice follows (R33). -/
theorem consumerWrite_fixed (i : RingId) (v : Word16) (s : State) : (consumerWrite i v s).fixed =
    (s.setRing i { s.ring i with consumed := consume (s.ring i) v }).fixed := by simp [consumerWrite]

theorem consumerWrite_right (i : RingId) (v : Word16) (s : State) : NoticeRight (consumerWrite i v s) :=
  recomputeNotice_right (s.setRing i { s.ring i with consumed := consume (s.ring i) v })

theorem consumerWrite_restarting (i : RingId) (v : Word16) (s : State) :
    (consumerWrite i v s).power.restarting = s.power.restarting :=
  congrArg Fixed.restarting (consumerWrite_fixed i v s)

/-- Settles O30: each word acts by `hostWordWrite_acts`, and the end of the command leaves its effect alone. -/
theorem consumerWordsAreTaken : Obligations.ConsumerWordsAreTaken := by
  unfold Obligations.ConsumerWordsAreTaken
  intro v s x noRestart writes clean even offset m
  refine ⟨fun i place => ?_, fun past notDone => ?_⟩
  · have named : actConsumer v (hostWordOf (x.here - Config.hostWordsPage)) = some (consumerWrite i v) := by
      rw [show x.here - Config.hostWordsPage = 2 * (i.id - 1) from place, hostWordOf_consumer]; rfl
    obtain ⟨t, run, fixed, right⟩ := hostWordCommand_leaves (exec_consumerWordWrite v s) writes clean even named
      ((consumerWrite_restarting i v _).trans noRestart)
    exact ⟨t, run, fixed.trans (consumerWrite_fixed i v _), right (consumerWrite_right i v _)⟩
  · have named : actOther (hostWordOf (x.here - Config.hostWordsPage)) = some id :=
      congrArg actOther (hostWordOf_other past notDone)
    obtain ⟨t, run, fixed, _⟩ := hostWordCommand_leaves (exec_hostWordsOtherWrite v s) writes clean even named noRestart
    exact ⟨t, run, fixed⟩

end Sys2Proof.Machine
end

section
/-! Temperature bands (R68, R69): the candidate of a temperature, the band chosen, and what a lane that has its band
leaves in its record and in the waveform unit. -/

namespace Sys2Proof.Machine

/-! ## The candidate band (R68) -/

/-- R59, R68: the bands leave no gap. The highest band whose lower edge T reaches contains T. -/
theorem WaveSet.exists_band_containing {x : WaveSet} {t : Int} (bands : 0 < x.bandCount) (low : x.lower 0 ≤ t)
    (high : t < x.upper) : ∃ b < x.bandCount, x.lower b ≤ t ∧ t < x.upperOf b := by
  let b := Nat.findGreatest (fun b => x.lower b ≤ t) (x.bandCount - 1)
  have reached : x.lower b ≤ t := Nat.findGreatest_spec (P := fun b => x.lower b ≤ t) (Nat.zero_le _) low
  have last : b ≤ x.bandCount - 1 := Nat.findGreatest_le _
  refine ⟨b, by omega, reached, ?_⟩
  unfold WaveSet.upperOf
  split
  · next notLast => exact not_le.mp (Nat.findGreatest_is_greatest (Nat.lt_succ_self b) (by omega))
  · exact high

theorem WaveSet.candidate_below {x : WaveSet} {t : Int} (below : t < x.lower 0) : x.candidate t = 0 := if_pos below

theorem WaveSet.candidate_above {x : WaveSet} {t : Int} (low : ¬ t < x.lower 0) (above : x.upper ≤ t) :
    x.candidate t = x.bandCount - 1 := (if_neg low).trans (if_pos above)

theorem WaveSet.candidate_within {x : WaveSet} {t : Int} (bands : 0 < x.bandCount) (low : ¬ t < x.lower 0)
    (high : ¬ x.upper ≤ t) :
    x.candidate t < x.bandCount ∧ x.lower (x.candidate t) ≤ t ∧ t < x.upperOf (x.candidate t) := by
  obtain ⟨b, inSet, contains⟩ := exists_band_containing bands (not_lt.mp low) (not_le.mp high)
  have searched : x.candidate t = ((List.range x.bandCount).find? fun b =>
      decide (x.lower b ≤ t) && decide (t < x.upperOf b)).getD 0 := (if_neg low).trans (if_neg high)
  cases found : (List.range x.bandCount).find? fun b => decide (x.lower b ≤ t) && decide (t < x.upperOf b) with
  | none => exact absurd contains (by simpa using List.find?_eq_none.mp found b (List.mem_range.mpr inSet))
  | some c =>
    rw [searched, found]
    exact ⟨List.mem_range.mp (List.mem_of_find?_eq_some found), by simpa using List.find?_some found⟩

/-- R68: the candidate in its three cases. -/
theorem WaveSet.candidate_spec {x : WaveSet} (bands : 0 < x.bandCount) (t : Int) :
    if t < x.lower 0 then x.candidate t = 0
    else if x.upper ≤ t then x.candidate t = x.bandCount - 1
    else x.candidate t < x.bandCount ∧ x.lower (x.candidate t) ≤ t ∧ t < x.upperOf (x.candidate t) := by
  split
  · next below => exact candidate_below below
  · next low =>
    split
    · next above => exact candidate_above low above
    · next high => exact candidate_within bands low high

/-! ## The chosen band (R69) -/

theorem WaveSet.chooseBand_none (x : WaveSet) (t : Int) : x.chooseBand none t = x.candidate t := rfl

/-- R69: the current band is kept where it is the candidate, or where T is within its range and the margin. -/
theorem WaveSet.chooseBand_some (x : WaveSet) (k : Nat) (t : Int) :
    x.chooseBand (some k) t =
      if x.candidate t = k ∨ x.lower k - 10 ≤ t ∧ t < x.upperOf k + 10 then k else x.candidate t := by
  by_cases same : x.candidate t = k
  · simp [chooseBand, same]
  · simp [chooseBand, same, Config.bandMargin]

/-! ## Mode resolution's part in the record (R71) -/

@[simp] theorem resolveLane_band (s : State) (u : UpdateRecord) (b : Nat) (f : UpdateFlags) :
    (resolveLane s u b f).band = some b := by
  unfold resolveLane; simp only []; split <;> rfl

@[simp] theorem resolveLane_coldClamp (s : State) (u : UpdateRecord) (b : Nat) (f : UpdateFlags) :
    (resolveLane s u b f).flags.coldClamp = f.coldClamp := by
  unfold resolveLane; simp only []; split <;> rfl

@[simp] theorem resolveLane_hotClamp (s : State) (u : UpdateRecord) (b : Nat) (f : UpdateFlags) :
    (resolveLane s u b f).flags.hotClamp = f.hotClamp := by
  unfold resolveLane; simp only []; split <;> rfl

/-! ## The lane enters LATCH (R69, R80) -/

@[simp] theorem changeRecord_wave (r : RecordId) (s : State) : (changeRecord r s).wave = s.wave := by
  unfold changeRecord; split <;> rfl

@[simp] theorem changeRecord_lane (r : RecordId) (s : State) (i : Fin 16) : (changeRecord r s).lane i = s.lane i :=
  congrArg (fun d : DriveEngine => d.lanes[i]) (changeRecord_drive r s)

@[simp] theorem setLane_wave (i : Fin 16) (l : Option Lane) (s : State) : (s.setLane i l).wave = s.wave := rfl

@[simp] theorem setLane_lane_same (i : Fin 16) (l : Option Lane) (s : State) : (s.setLane i l).lane i = l := by
  simp [State.lane, State.setLane]

/-- R69: the lane's band becomes the current band. -/
theorem enterLatch_wave_band (i : Fin 16) (l : Lane) (b : Nat) (f : UpdateFlags) (s : State) :
    (enterLatch i l b f s).wave.band = some b := by
  unfold enterLatch
  simp only [changeRecord_wave, setLane_wave]
  split
  · assumption
  · simp [setWaveShown]

/-- R80: the lane is in LATCH with its band; mode resolution leaves the clamp flags it is given. -/
theorem enterLatch_lane (i : Fin 16) (l : Lane) (b : Nat) (f : UpdateFlags) (s : State) :
    ∃ l', (enterLatch i l b f s).lane i = some l' ∧ l'.upd.band = some b ∧ l'.state = .latch
      ∧ l'.upd.flags.coldClamp = f.coldClamp ∧ l'.upd.flags.hotClamp = f.hotClamp := by
  unfold enterLatch
  simp only [changeRecord_lane, setLane_lane_same]
  exact ⟨_, rfl, resolveLane_band .., rfl, resolveLane_coldClamp .., resolveLane_hotClamp ..⟩

/-! ## The statement -/

theorem waveSet_of_set {s : State} {x : WaveSet} (set : s.wave.set = some x) : s.waveSet = x := by
  simp [State.waveSet, set]

theorem laneWithTemp_of_set {s : State} {x : WaveSet} (set : s.wave.set = some x) (i : Fin 16) (l : Lane) (t : Int)
    (fault : Bool) : laneWithTemp i l t fault s = enterLatch i l (x.chooseBand s.wave.band t)
      (x.clampFlags t { l.upd.flags with thermFault := l.upd.flags.thermFault || fault }) s := by
  unfold laneWithTemp; rw [waveSet_of_set set]

/-- Settles O16: the candidate's three cases, the margin test on the current band, and the lane's entry into LATCH with
the flags of `clampFlags`. The candidate needs one band at least; that the edges ascend is not used. -/
theorem laneTakesItsBand : Obligations.LaneTakesItsBand := by
  unfold Obligations.LaneTakesItsBand
  intro i l t fault s x set bands _ _ _
  rw [laneWithTemp_of_set set]
  refine ⟨x.candidate t, x.chooseBand s.wave.band t, x.candidate_spec bands t, ?_, enterLatch_wave_band ..,
    enterLatch_lane ..⟩
  cases s.wave.band with
  | none => exact x.chooseBand_none t
  | some k => simp only [x.chooseBand_some]; split <;> rfl

end Sys2Proof.Machine
end

section
/-! The thermistor table (R144): what a table of rising codes gives for a code, point by point, and what a THERM
conversion leaves of it in the sampler. -/

namespace Sys2Proof.Machine

/-! ## Rising codes (R145) -/

theorem thermTableOk_cons_cons (a b : Nat × Int) (l : List (Nat × Int)) :
    thermTableOk (a :: b :: l) = true ↔ a.1 < b.1 ∧ thermTableOk (b :: l) = true := by simp [thermTableOk]

/-- R145: an accepted table's codes rise strictly from each point to the next. -/
theorem thermTableOk_rises : ∀ {l : List (Nat × Int)}, thermTableOk l = true →
    ∀ {i : Nat} (next : i + 1 < l.length), l[i].1 < l[i + 1].1
  | [], _, _, next => absurd next (Nat.not_lt_zero _)
  | [_], _, _, next => absurd next (by simp)
  | a :: b :: l, ok, i, next => by
    obtain ⟨rise, rest⟩ := (thermTableOk_cons_cons a b l).mp ok
    cases i with
    | zero => exact rise
    | succ j => exact thermTableOk_rises rest (Nat.lt_of_succ_lt_succ next)

/-! ## The table's value (R144) -/

theorem thermValue_le_first : ∀ {l : List (Nat × Int)} (nonempty : 0 < l.length) {code : Nat},
    code ≤ l[0].1 → thermValue l code = l[0].2
  | [_], _, _, _ => rfl
  | _ :: _ :: _, _, _, below => if_pos below

/-- R144: the first segment. At its first code the fraction is zero, so the clause for codes up to `c_0` agrees. -/
theorem thermValue_first_segment {a b : Nat × Int} {l : List (Nat × Int)} {code : Nat} (low : a.1 ≤ code)
    (high : code < b.1) :
    thermValue (a :: b :: l) code = a.2 + ((b.2 - a.2) * ((code : Int) - a.1)).tdiv ((b.1 : Int) - a.1) := by
  rcases Nat.eq_or_lt_of_le low with same | above
  · rw [thermValue_le_first (l := a :: b :: l) (Nat.zero_lt_succ _) same.ge, ← same]; simp
  · exact (if_neg above.not_ge).trans (if_pos high)

theorem thermValue_past_first_segment {a b : Nat × Int} {l : List (Nat × Int)} {code : Nat} (rise : a.1 < b.1)
    (past : b.1 ≤ code) : thermValue (a :: b :: l) code = thermValue (b :: l) code :=
  (if_neg (rise.trans_le past).not_ge).trans (if_neg past.not_gt)

/-- R144: the points before one that the code has reached do not matter. -/
theorem thermValue_drop {l : List (Nat × Int)} (ok : thermTableOk l = true) {code : Nat} :
    ∀ {i : Nat} (inTable : i < l.length), l[i].1 ≤ code → thermValue l code = thermValue (l.drop i) code
  | 0, _, _ => rfl
  | i + 1, inTable, reached => by
    have rise : l[i].1 < l[i + 1].1 := thermTableOk_rises ok inTable
    calc thermValue l code
      _ = thermValue (l.drop i) code := thermValue_drop ok (Nat.lt_of_succ_lt inTable) (rise.le.trans reached)
      _ = thermValue (l[i] :: l[i + 1] :: l.drop (i + 2)) code := by simp
      _ = thermValue (l[i + 1] :: l.drop (i + 2)) code := thermValue_past_first_segment rise reached
      _ = thermValue (l.drop (i + 1)) code := by simp

/-- R144: on a segment, the interpolation cut toward zero. -/
theorem thermValue_segment {l : List (Nat × Int)} (ok : thermTableOk l = true) {code i : Nat} (next : i + 1 < l.length)
    (low : l[i].1 ≤ code) (high : code < l[i + 1].1) :
    thermValue l code =
      l[i].2 + ((l[i + 1].2 - l[i].2) * ((code : Int) - l[i].1)).tdiv ((l[i + 1].1 : Int) - l[i].1) := by
  have fromPoint : l.drop i = l[i] :: l[i + 1] :: l.drop (i + 2) := by simp
  rw [thermValue_drop ok (Nat.lt_of_succ_lt next) low, fromPoint, thermValue_first_segment low high]

/-- R144: at or above the last code, the last temperature. -/
theorem thermValue_ge_last {l : List (Nat × Int)} (ok : thermTableOk l = true) {code i : Nat} (last : l.length = i + 1)
    (past : l[i].1 ≤ code) : thermValue l code = l[i].2 := by
  have final : l.drop i = [l[i]] := by
    rw [List.drop_eq_getElem_cons (by omega), List.drop_eq_nil_of_le last.le]
  rw [thermValue_drop ok (by omega) past, final]; rfl

/-! ## What a THERM conversion leaves (R143, R144) -/

theorem convValue_therm_of_fault (p : Sampler) {code : Nat} (fault : code = 0 ∨ code = 1023) :
    convValue p .therm code = none := if_pos (decide_eq_true fault)

theorem convValue_therm_of_valid (p : Sampler) {code : Nat} (valid : ¬ (code = 0 ∨ code = 1023)) :
    convValue p .therm code = some (thermValue p.therm code) := if_neg (by simpa [thermFaultCode] using valid)

/-- R144: a fault leaves the last valid temperature, its time and the before-DEEP flag. -/
theorem completed_therm_of_fault {p : Sampler} {code : Nat} (fault : code = 0 ∨ code = 1023) (now : Time) :
    (p.completed .therm code now).thermFault = true
      ∧ (p.completed .therm code now).chans.therm.value = p.chans.therm.value
      ∧ (p.completed .therm code now).beforeDeep = p.beforeDeep := by
  simp [Sampler.completed, convValue_therm_of_fault p fault, Sampler.setChan, Channels.get, Channels.set,
    ChannelUnit.converted]

theorem completed_therm_of_valid {p : Sampler} {code : Nat} (valid : ¬ (code = 0 ∨ code = 1023)) (now : Time) :
    (p.completed .therm code now).thermFault = false
      ∧ (p.completed .therm code now).beforeDeep = false
      ∧ (p.completed .therm code now).chans.therm.value = some (thermValue p.therm code, now) := by
  simp [Sampler.completed, convValue_therm_of_valid p valid, Sampler.setChan, Channels.get, Channels.set,
    ChannelUnit.converted]

/-! ## The statement -/

/-- Settles O18: the flags and the last valid temperature from `completed_therm_of_fault` and
`completed_therm_of_valid`, the value from what the table gives at its ends and on a segment. That the code has 10 bits
is not used. -/
theorem thermistorConversion : Obligations.ThermistorConversion := by
  unfold Obligations.ThermistorConversion
  intro p code now _ eight ok
  dsimp only
  refine ⟨fun fault => completed_therm_of_fault fault now, fun ⟨pos, below⟩ => ?_⟩
  obtain ⟨noFault, noDeep, value⟩ := completed_therm_of_valid (p := p) (code := code) (by omega) now
  have point (i : Nat) (inTable : i < 8) : p.therm.getD i (0, 0) = p.therm[i] := List.getD_eq_getElem ..
  refine ⟨noFault, noDeep, _, value, fun atFirst => ?_, fun atLast => ?_, fun i inTable ⟨low, high⟩ => ?_⟩
  · rw [point 0 (by omega)] at atFirst ⊢
    exact thermValue_le_first (by omega) (Int.ofNat_le.mp atFirst)
  · rw [point 7 (by omega)] at atLast ⊢
    exact thermValue_ge_last ok eight (Int.ofNat_le.mp atLast)
  · rw [point i (by omega)] at low ⊢
    rw [point (i + 1) (by omega)] at high ⊢
    exact thermValue_segment ok (by omega) (Int.ofNat_le.mp low) (Int.ofNat_lt.mp high)

end Sys2Proof.Machine
end
